-- ==== Sys2Proof/Word.lean ====
section
/-! DEFINITION. The words of the part: bytes, frame-counter values with their cyclic comparison (R54), and tables of a
fixed number of like things (four lanes, eight ports, six stations, 64 map entries). -/
namespace Sys2Proof

/-- One byte of a frame or of a payload. -/
abbrev Byte := BitVec 8

/-- A value of the free-running 32-bit frame counter (R54). -/
abbrev Fc := BitVec 32

/-- The signed distance from `a` to `b`: `b − a` taken modulo 2^32 into −2^31 … 2^31 − 1 (R54). -/
def fcDist (a b : Fc) : Int := (b - a).toInt

/-- `a` is at or before `b` (R54). -/
def fcAtOrBefore (a b : Fc) : Bool := decide (0 ≤ fcDist a b)

/-- `a` is before `b` (R54). -/
def fcBefore (a b : Fc) : Bool := decide (0 < fcDist a b)

/-- `n` like things, numbered from 0. -/
structure Tbl (n : Nat) (α : Type) where
  cells : List α
  size : cells.length = n
deriving DecidableEq, Repr

/-- A table with the same thing in every place. -/
def Tbl.fill (n : Nat) {α : Type} (a : α) : Tbl n α := ⟨List.replicate n a, by simp⟩

/-- The thing in place `i`. -/
def Tbl.get {n : Nat} {α : Type} (t : Tbl n α) (i : Fin n) : α :=
  t.cells[i.val]'(by rw [t.size]; exact i.isLt)

/-- The table with `a` in place `i`. -/
def Tbl.set {n : Nat} {α : Type} (t : Tbl n α) (i : Fin n) (a : α) : Tbl n α :=
  ⟨t.cells.set i.val a, by rw [List.length_set, t.size]⟩

/-- The table with place `i` changed by `f`. -/
def Tbl.modify {n : Nat} {α : Type} (t : Tbl n α) (i : Fin n) (f : α → α) : Tbl n α := t.set i (f (t.get i))

/-- The table with every place changed by `f`. -/
def Tbl.map {n : Nat} {α β : Type} (t : Tbl n α) (f : α → β) : Tbl n β :=
  ⟨t.cells.map f, by rw [List.length_map, t.size]⟩

/-- The places of a table of `n`, in rising order. -/
def places (n : Nat) : List (Fin n) := List.finRange n

/-- The number `k` of a table of `n` places, where there is such a place. -/
def place? (n k : Nat) : Option (Fin n) := if h : k < n then some ⟨k, h⟩ else none

@[simp] theorem Tbl.get_fill {n : Nat} {α : Type} (a : α) (i : Fin n) : (Tbl.fill n a).get i = a := by
  simp [Tbl.fill, Tbl.get]

@[simp] theorem Tbl.get_set_self {n : Nat} {α : Type} (t : Tbl n α) (i : Fin n) (a : α) : (t.set i a).get i = a := by
  simp [Tbl.set, Tbl.get]

theorem Tbl.get_set_ne {n : Nat} {α : Type} (t : Tbl n α) {i j : Fin n} (a : α) (h : i ≠ j) :
    (t.set i a).get j = t.get j := by
  simp [Tbl.set, Tbl.get, Fin.val_ne_of_ne h]

theorem Tbl.get_set {n : Nat} {α : Type} (t : Tbl n α) (i j : Fin n) (a : α) :
    (t.set i a).get j = if i = j then a else t.get j := by
  by_cases h : i = j
  · subst h; simp
  · rw [Tbl.get_set_ne t a h, if_neg h]

@[simp] theorem Tbl.get_modify_self {n : Nat} {α : Type} (t : Tbl n α) (i : Fin n) (f : α → α) :
    (t.modify i f).get i = f (t.get i) := by
  simp [Tbl.modify]

theorem Tbl.get_modify {n : Nat} {α : Type} (t : Tbl n α) (i j : Fin n) (f : α → α) :
    (t.modify i f).get j = if i = j then f (t.get j) else t.get j := by
  unfold Tbl.modify
  rw [Tbl.get_set]
  by_cases h : i = j
  · subst h; simp
  · simp [h]

@[simp] theorem Tbl.get_map {n : Nat} {α β : Type} (t : Tbl n α) (f : α → β) (i : Fin n) :
    (t.map f).get i = f (t.get i) := by
  simp [Tbl.map, Tbl.get]


end Sys2Proof
end

