-- ==== Sys2Proof/Config.lean ====
section
/-! DEFINITION. The fixed sizes of the part, and the free values: constants with no body, standing for what the manual
leaves open. Nothing can be proved of a free value, so a claim holds whatever it is. -/
namespace Sys2Proof.Config

/-- The largest duration or offset, in frames (Conventions, Time). -/
def maxDuration : Nat := 1048575

/-- The largest reported signed frame distance (Conventions, Time). -/
def maxDistance : Nat := 8388607

/-- Item records of the store (R1). -/
def itemRecords : Nat := 512

/-- Element records of the store (R1). -/
def elementRecords : Nat := 4096

/-- Elements an item's list may hold (R19). -/
def maxElements : Nat := 32

/-- Entries a fire queue may hold (R123). -/
def fireQueueSize : Nat := 16

/-- Messages a lane FIFO, a window and a receive queue of a port may each hold (R159). -/
def portQueueSize : Nat := 4

/-- Messages a priority slot may hold (R159). -/
def prioritySlotSize : Nat := 8

/-- Requests, and responses, that the control port may hold (R203, R204). -/
def controlQueueSize : Nat := 4

/-- FREE VALUE. Which of the blocks that have work to do acts next: the manual says that the blocks act on a frame arrival
independently of one another (R53) and gives no order among them. Applied to `State.free`. -/
opaque blockChoice : Nat → Nat

/-- FREE VALUE. The byte the part drives on SDO while it receives a byte of a request frame: the manual gives the bytes sent
after the work of a transaction and not these (R202, R203). Applied to `State.free`. -/
opaque sdoByte : Nat → Byte

/-- FREE VALUE. The frame count that a pending CLOCKSET label takes when, after a RATE, its ff is not a frame of the rate in
force: R61 keeps the label and R63 then gives it no reading. The arguments are the nominal frames per second in force
and the label's hh, mm, ss and ff. -/
opaque staleLabelCount : Nat → Nat → Nat → Nat → Nat → Nat

end Sys2Proof.Config
end

