-- ==== Sys2Proof/Syntax.lean ====
section
/-! DEFINITION. The commands of the part: one constructor for each row of spec/opcode_table.json. A row that is a request
of the control port carries no operand of its own: the request's fields are the bytes of the frame that
WRITE_TRANSACTION put into the request queue, and the row is the service of the frame at the head (R203, R204; log 1). -/
namespace Sys2Proof

/-- A time-of-day label as the four bytes that carry it (R210). -/
structure Label where
  hh : Nat
  mm : Nat
  ss : Nat
  ff : Nat
deriving DecidableEq, Repr

/-- The two lines of a lane from the director's panel (R114). -/
inductive PanelLine where
  | take
  | hold
deriving DecidableEq, Repr

/-- The commands of the part: what the host, the pins, the links and the part's timers do to it. -/
inductive Instr where
  /-- Supply comes up (R3, Reset summary). -/
  | powerOnReset
  /-- RESET_N is asserted (R208). -/
  | warmReset
  /-- A transaction that reads the status byte alone: its code (none when CS_N rises before the first byte is complete) and
  how many further bytes the host clocks (R202). -/
  | statusTransaction (code : Option Byte) (further : Nat)
  /-- A transaction with code 5A: the bytes the host sends after the code before CS_N rises (R203). -/
  | writeTransaction (bytes : List Byte)
  /-- A transaction with code A5: how many bytes the host clocks after the code before CS_N rises (R205). -/
  | readTransaction (clocked : Nat)
  /-- The request at the head of the queue, of a kind that names no request, is served (R204). -/
  | unknownRequest
  | insert
  | amend
  | move
  | float
  | restore
  | kill
  | retire
  | addel
  | setel
  | delel
  | stamp
  | scan
  | getitem
  | getel
  | list
  | timing
  | rate
  | refcfg
  | clockset
  | clockread
  | hardout
  | subst
  | start
  | stop
  | take
  | hold
  | resume
  | lanecfg
  | clearlane
  | map
  | side
  | portcfg
  | porten
  | portreset
  | station
  | call
  | answer
  | thresh
  | actions
  | condread
  | attncfg
  /-- A phase of an ATTN pulse has lasted its 2 µs (R206). -/
  | attnPulseTimer
  /-- The internal source's period timer expires (R55). -/
  | internalSourceExpiry
  /-- A pulse on the reference input: the real time since the previous accepted pulse, in units of 1/120,000 s, and the
  label that came with it (R56, R57). -/
  | referencePulse (since : Nat) (label : Option Label)
  /-- The missing-pulse timer expires (R58). -/
  | missingPulseTimer
  /-- The lane's panel TAKE line becomes asserted (R114). -/
  | panelTake (lane : Fin 4)
  /-- The lane's panel HOLD line becomes asserted (R114). -/
  | panelHold (lane : Fin 4)
  /-- The lane tests its gate timeout for the last frame arrival (R113). -/
  | gateTimeout (lane : Fin 4)
  /-- The lane tests its last take for the last frame arrival (R104). -/
  | lastTakeClear (lane : Fin 4)
  /-- A frame arrives on a cue link: its bytes from the start byte to the CRC (R166, R172, R211). -/
  | cueFrameReceived (port : Fin 8) (bytes : List Byte)
  /-- The port acts on an ACK at the head of its receive queue (R166). -/
  | ack (port : Fin 8)
  /-- The port acts on a NAK at the head of its receive queue (R166). -/
  | nak (port : Fin 8)
  /-- The port acts on an END at the head of its receive queue (R166, R170). -/
  | endNotice (port : Fin 8)
  /-- The port discards the message at the head of its receive queue (R166). -/
  | receivedMessageDiscard (port : Fin 8)
  /-- The port tests its outstanding records for the last frame arrival (R167). -/
  | ackTimeout (port : Fin 8)
  /-- The port tests its probe interval for the last frame arrival (R169). -/
  | probeTimer (port : Fin 8)
  /-- A checked ALIVE is heard from a station (R178). -/
  | alive (station : Fin 6)
  /-- A checked READY is heard from a station (R186). -/
  | ready (station : Fin 6)
  /-- A checked HOLD is heard from a station (R186). -/
  | stationHold (station : Fin 6)
  /-- A checked CALL is heard from a station (R187). -/
  | stationCall (station : Fin 6)
  /-- Any other frame arrives on a station link: its bytes (R178, R212). -/
  | stationFrameDiscard (station : Fin 6) (bytes : List Byte)
  /-- The Unit takes the boundary that is a station's third missed one (R178, R179). -/
  | stationAbsent (station : Fin 6)
  /-- A panel line is released (R114). -/
  | panelLineRelease (lane : Fin 4) (line : PanelLine)
  /-- RESET_N rises (R208). -/
  | resetNRelease
deriving DecidableEq, Repr

end Sys2Proof
end

