-- ==== Sys2Proof/Decode.lean ====
section
/-! DEFINITION. Commands spelled by a word: spec/opcode_table.json gives no bits for any row, so no word spells a command. -/
namespace Sys2Proof

/-- The command that a word of the table's bits spells: none, since no row of the table gives bits. -/
def decodeTableWord (_nbits _w : Nat) : Option Instr := none

end Sys2Proof
end

