-- ==== Sys2Proof/Machine/State.lean ====
section
/-! DEFINITION. The state of the part, block by block, as plain data; the reasons a step can stop; and the state after
power-on reset. -/
namespace Sys2Proof.Machine

/-! ### Records of the Rundown Store -/

/-- A record of a pool with its allocation count, as every reference held outside the store carries it (R2). -/
structure Ref where
  num : Nat
  alloc : BitVec 32
deriving DecidableEq, Repr

/-- An element with the item it belongs to, each with its allocation count (R2). -/
structure ElemRef where
  item : Ref
  elem : Ref
deriving DecidableEq, Repr

/-- Where an item stands (R5). -/
inductive Place where
  | order
  | standby
deriving DecidableEq, Repr

/-- An item's state (R15). -/
inductive ItemState where
  | pending
  | next
  | onAir
  | done
deriving DecidableEq, Repr

/-- An item's disposition (R14). -/
inductive Disposition where
  | inOrder
  | floated
  | dropped
deriving DecidableEq, Repr

/-- An item's end mode; CLIP names its end clip by index (R11). -/
inductive EndMode where
  | manual
  | timed
  | clip (index : Nat)
deriving DecidableEq, Repr

/-- An item's absorber field (R12). -/
structure Absorber where
  min : Nat
  max : Nat
deriving DecidableEq, Repr

/-- An item's cycle field (R13). -/
structure Cycle where
  first : Nat
  last : Nat
  period : Nat
deriving DecidableEq, Repr

/-- An item's start field: Fs and the label of the house clock (R16). -/
structure Start where
  fs : Fc
  label : Label
deriving DecidableEq, Repr

/-- An element's kind with the content fields that the kind has, but for the offset (R20). -/
inductive Content where
  | clip (device : Fin 64) (clipId : BitVec 32)
  | clipStop (device : Fin 64)
  | gfxIn (device : Fin 64) (template : BitVec 16) (dataRef : BitVec 32)
  | gfxOut (device : Fin 64) (template : BitVec 16)
  | cue (station : Fin 6) (lead : Nat) (gating : Bool)
deriving DecidableEq, Repr

/-- An element's fire state (R21). -/
inductive FireState where
  | waiting
  | queued
  | sent
  | done
  | failed
  | skipped
  | ended
deriving DecidableEq, Repr

/-- A CLIP element's load state (R21). -/
inductive LoadState where
  | unloaded
  | conflict
  | loading
  | loaded
  | loadFailed
deriving DecidableEq, Repr

/-- Why a load failed (R21). -/
inductive LoadFailure where
  | nakNotFound
  | nakRefused
  | nakBusy
  | timeout
  | portBusy
  | portFault
deriving DecidableEq, Repr

/-- Why an element is FAILED or SKIPPED (the element record). -/
inductive FailReason where
  | unmapped
  | portFault
  | portBusy
  | timeout
  | nakNotFound
  | nakRefused
  | nakBusy
  | wrongLane
  | late
deriving DecidableEq, Repr

/-- A port with a channel of the device behind it (R141). -/
structure Target where
  port : Fin 8
  channel : Fin 8
deriving DecidableEq, Repr

/-- An element record in use (R19, R20, R21). `shift` is what the last cycle re-admission added to the element's due frame
(R136), 0 for an element that no cycle has re-admitted. -/
structure Element where
  ref : Ref
  content : Content
  offset : Nat
  fire : FireState
  load : LoadState
  loadTarget : Option Target
  loadFailure : Option LoadFailure
  failReason : Option FailReason
  late : Bool
  pass : BitVec 32
  shift : BitVec 32
deriving DecidableEq, Repr

/-- An item record in use (the item record). The failed elements count is computed from the elements, by `Item.failed`. -/
structure Item where
  ref : Ref
  key : Nat
  lane : Fin 4
  place : Place
  label : List Byte
  state : ItemState
  disposition : Disposition
  planned : Nat
  endMode : EndMode
  dropPriority : Nat
  absorber : Option Absorber
  cycle : Option Cycle
  elements : List Element
  start : Option Start
  actual : Option Nat
  effPlanned : Option Nat
  proposed : Bool
  rev : BitVec 8
deriving DecidableEq, Repr

/-- The Rundown Store: the item records in use, the free records of both pools with their allocation counts, each lane's
order and each lane's standby item (R1 to R7). The key index is the keys of the items in use. -/
structure Store where
  items : List Item
  freeItems : List Ref
  freeElements : List Ref
  orders : Tbl 4 (List Nat)
  standbys : Tbl 4 (Option Nat)
deriving DecidableEq, Repr

/-! ### The Reference Unit -/

/-- The house rates (R59). -/
inductive Rate where
  | r25
  | r50
  | r2997
  | r5994
deriving DecidableEq, Repr

/-- The reference state (R57). -/
inductive RefState where
  | freeRun
  | acquiring
  | locked
deriving DecidableEq, Repr

/-- From what moment the running period of the internal source is counted (R55). -/
inductive SourceFrom where
  | powerOn
  | ownExpiry
  | missingPulse
  | lastAcceptedPulse
  | rateChange
deriving DecidableEq, Repr

/-- The Reference Unit (R53 to R71). `pulseAccepted` is set once a pulse has been accepted, so that a next one can be early;
a pending CLOCKSET label is JAM_PENDING. -/
structure RefUnit where
  fc : Fc
  t : Nat
  rate : Rate
  state : RefState
  acquired : Nat
  pulseAccepted : Bool
  missingTimer : Bool
  internal : Option SourceFrom
  enabled : Bool
  labelCheck : Bool
  slipCount : Nat
  mismatch : Nat
  pendingLabel : Option Label
deriving DecidableEq, Repr

/-! ### Settings that only requests and resets change -/

/-- Fit modes (R84). -/
inductive FitMode where
  | off
  | advise
  | auto
deriving DecidableEq, Repr

/-- A lane's configuration (R93). -/
structure LaneCfg where
  fitMode : FitMode
  lockWindow : Nat
  lateTolerance : Nat
  takeGuard : Nat
  doneRetain : Nat
  gateTimeout : Nat
  noNextWarn : Nat
  safeList : List (Fin 64)
  substitute : Option Int
deriving DecidableEq, Repr

/-- A lane's hard out: its label and the Fc value it is resolved to (R75). -/
structure HardOut where
  label : Label
  habs : Fc
deriving DecidableEq, Repr

/-- A port's settings (R159). -/
structure PortCfg where
  ackTimeout : Nat
  faultThreshold : Nat
  recoverCount : Nat
  probeInterval : Nat
  burstLimit : Nat
  precedence : List (Fin 4)
deriving DecidableEq, Repr

/-- A lane's OVER and UNDER settings (R193). -/
structure Thresh where
  overT : Nat
  underT : Nat
  count : Nat
  hysteresis : Nat
deriving DecidableEq, Repr

/-- ATTN modes (R206). -/
inductive AttnMode where
  | level
  | pulse
deriving DecidableEq, Repr

/-- The settings: each lane's configuration and hard out, each port's settings, each lane's thresholds and configured action
levels (for OVER, UNDER, NO_NEXT, NOT_READY, PORT_FAULT, STATION_LOST, REF_LOST in this order, R198), the attention mask
(bit 0 for OVER through bit 11 for STATION_HOLD, R210) and the ATTN mode (R207). -/
structure Settings where
  lanes : Tbl 4 LaneCfg
  hardOuts : Tbl 4 (Option HardOut)
  ports : Tbl 8 PortCfg
  thresh : Tbl 4 Thresh
  levels : Tbl 4 (Tbl 7 Nat)
  attnMask : BitVec 12
  attnMode : AttnMode
deriving DecidableEq, Repr

/-! ### The Lane Sequencers -/

/-- Lane states (R95). -/
inductive LaneState where
  | idle
  | standby
  | running
  | held
  | waiting
  | filling
deriving DecidableEq, Repr

/-- An entry of a load list (R99). `number` tells one LOAD from another sent for the same element to the same place, as an
answer must (R99: the answer of a LOAD whose entry was replaced matches no entry). -/
structure LoadEntry where
  ref : ElemRef
  key : Nat
  device : Fin 64
  target : Target
  number : Nat
deriving DecidableEq, Repr

/-- An entry of a fire queue (R123). -/
structure FireEntry where
  ref : ElemRef
  due : Fc
  standbyPoint : Option Fc
  asked : Bool
  waitLoad : Bool
deriving DecidableEq, Repr

/-- A lane record but for its settings (R92), with its fire queue and pass count (R123). `deferred` holds the map entries on which
the LOAD of the NEXT item waits for the ON_AIR item to leave air (R98, R148). `gateTick` holds the gate timeout in
force at a frame arrival whose gate test the lane has not made yet (R113), and `lastTick` says that the lane has not yet
tested its last take for a frame arrival (R104). -/
structure LaneRec where
  state : LaneState
  cursor : Option Nat
  onAir : Option Nat
  next : Option Nat
  operator : Bool
  action : Bool
  gate : Bool
  gateDue : Option Fc
  lastTake : Option Fc
  loadList : List LoadEntry
  cueList : List ElemRef
  actionLevel : Nat
  fireQueue : List FireEntry
  passCount : BitVec 32
  deferred : List (Fin 64)
  gateTick : Option Nat
  lastTick : Bool
deriving DecidableEq, Repr

/-! ### The Timing Engine -/

/-- The distances of one included item (R72). -/
structure ItemDist where
  key : Nat
  front : Int
  frontLabel : Label
  back : Option (Int × Label)
deriving DecidableEq, Repr

/-- A lane's timing result (R72). -/
structure Timing where
  computedAt : Fc
  remOn : Nat
  rawOver : Option Int
  overA : Option Int
  residual : Option Int
  absorber : Option (Nat × Nat)
  plan : List Nat
  items : List ItemDist
deriving DecidableEq, Repr

/-! ### The Device Router -/

/-- The class of a map entry (R141). -/
inductive DevClass where
  | playout
  | graphics
deriving DecidableEq, Repr

/-- The sides of a map entry (R141). -/
inductive Side where
  | main
  | backup
deriving DecidableEq, Repr

/-- A claim: the holding lane and the keys of its users (R146). -/
structure Claim where
  lane : Fin 4
  users : List Nat
deriving DecidableEq, Repr

/-- An entry of the device map (R141). -/
structure MapEntry where
  valid : Bool
  cls : DevClass
  main : Target
  backup : Option Target
  active : Side
  autoFailover : Bool
  preroll : Nat
  claim : Option Claim
  waiters : List (Fin 4)
deriving DecidableEq, Repr

/-- A message on a cue link, but for its seq (R152, R169). -/
inductive CueMsg where
  | load (channel : Fin 8) (clipId : BitVec 32)
  | roll (channel : Fin 8)
  | stopClip (channel : Fin 8)
  | gfxIn (channel : Fin 8) (template : BitVec 16) (dataRef : BitVec 32)
  | gfxOut (channel : Fin 8) (template : BitVec 16)
  | safe (channel : Fin 8)
  | probe
deriving DecidableEq, Repr

/-- An owner reference (R152): the lane, the item and the element with their allocation counts, the pass, and for a LOAD its
number (see `LoadEntry`). -/
structure Owner where
  lane : Fin 4
  ref : ElemRef
  pass : BitVec 32
  number : Nat
deriving DecidableEq, Repr

/-! ### The Cue Link Ports -/

/-- Port states (R161). -/
inductive PortState where
  | down
  | inService
  | faulted
deriving DecidableEq, Repr

/-- A message in a lane FIFO (R159). -/
structure Queued where
  msg : CueMsg
  owner : Owner
deriving DecidableEq, Repr

/-- A record of the outstanding window (R165). -/
structure WinRec where
  seq : BitVec 8
  msg : CueMsg
  owner : Option Owner
  sent : Fc
deriving DecidableEq, Repr

/-- A received message: its kind and fields (R166). -/
structure RxMsg where
  kind : Byte
  fields : List Byte
deriving DecidableEq, Repr

/-- A port record but for its settings (R159). `ackTick` and `probeTick` hold the ack timeout and the probe interval in force
at a frame arrival whose tests the port has not made yet (R167, R169). -/
structure Port where
  state : PortState
  fifos : Tbl 4 (List Queued)
  priority : List CueMsg
  burst : Option (Fin 4 × Nat)
  window : List WinRec
  nextSeq : BitVec 8
  failures : Nat
  probeAcks : Nat
  probeStart : Option Fc
  received : List RxMsg
  ackTick : Option Nat
  probeTick : Option Nat
deriving DecidableEq, Repr

/-! ### The Station Unit -/

/-- A presenter's response to a standby (R176). -/
inductive Response where
  | none
  | ready
  | hold
deriving DecidableEq, Repr

/-- A standby request: a cue of a lane with its label and the distance last handed, with the Fc of the hand (R176). -/
structure StandbyReq where
  lane : Fin 4
  key : Nat
  ref : ElemRef
  label : List Byte
  distance : Int
  handed : Fc
deriving DecidableEq, Repr

/-- The cue in a standby slot (R176). -/
structure StandbyCue where
  req : StandbyReq
  countdown : Nat
  response : Response
deriving DecidableEq, Repr

/-- The cue in a go slot (R176). -/
structure GoCue where
  key : Nat
  ref : ElemRef
  label : List Byte
deriving DecidableEq, Repr

/-- A station record (R176). `thirdMiss` is set from a boundary that would be the station's third missed one until the Unit
takes it (R178, R179). -/
structure Station where
  lane : Option (Fin 4)
  present : Bool
  missed : Nat
  heard : Bool
  standby : Option StandbyCue
  waiting : List StandbyReq
  go : Option GoCue
  callFrom : Bool
  callTo : Bool
  thirdMiss : Bool
deriving DecidableEq, Repr

/-! ### The Condition Monitor -/

/-- One entry of the condition table (R190); an event condition is never active. -/
structure Inst where
  active : Bool
  latched : Bool
  count : Nat
deriving DecidableEq, Repr

/-- The condition table, with the evaluation counts of OVER and UNDER (R190). -/
structure Monitor where
  overI : Tbl 4 Inst
  underI : Tbl 4 Inst
  noNext : Tbl 4 Inst
  notReady : Tbl 4 Inst
  portFault : Tbl 4 Inst
  stationLost : Tbl 4 Inst
  refLost : Inst
  gateTimeout : Tbl 4 Inst
  clockSlip : Inst
  rxOverrun : Tbl 8 Inst
  stationCall : Tbl 6 Inst
  stationHold : Tbl 6 Inst
  overCount : Tbl 4 Nat
  underCount : Tbl 4 Nat
deriving DecidableEq, Repr

/-! ### The Control Port -/

/-- The phases of the ATTN pulse driver (R206). -/
inductive PulsePhase where
  | idle
  | asserted
  | gap
deriving DecidableEq, Repr

/-- The pulse driver: its phase and the pending count (R206). -/
structure Pulse where
  phase : PulsePhase
  pending : Nat
deriving DecidableEq, Repr

/-- A request frame (R203). -/
structure Request where
  kind : Byte
  tag : Byte
  length : Byte
  payload : List Byte
deriving DecidableEq, Repr

/-- A response frame (R205). -/
structure Reply where
  tag : Byte
  status : Byte
  payload : List Byte
deriving DecidableEq, Repr

/-- The queues of the control port and its overrun flag (R203 to R205). -/
structure ControlPort where
  requests : List Request
  responses : List Reply
  overrun : Bool
deriving DecidableEq, Repr

/-! ### The whole part -/

/-- What the last command drove on the output pins: the bytes on SDO (none while it is at high impedance), the frames put on
the cue links and on the station links, in the order they were sent. -/
structure Out where
  sdo : Option (List Byte)
  cue : List (Fin 8 × List Byte)
  station : List (Fin 6 × List Byte)
deriving DecidableEq, Repr

/-- What is to be done for a lane before the event in hand ends: a recompute (R73), the judgements a timing result makes due,
and those a change of NEXT's elements makes due (R194). All clear between commands. -/
structure LaneDue where
  recompute : Bool
  result : Bool
  elements : Bool
deriving DecidableEq, Repr

/-- The records of the blocks that act on one another within an event. `loads` counts the LOADs sent (see `LoadEntry`). -/
structure World where
  store : Store
  lanes : Tbl 4 LaneRec
  timing : Tbl 4 Timing
  map : Tbl 64 MapEntry
  rolls : Tbl 64 (Option Owner)
  ports : Tbl 8 Port
  stations : Tbl 6 Station
  monitor : Monitor
  pulse : Pulse
  due : Tbl 4 LaneDue
  loads : Nat
  out : Out
deriving DecidableEq, Repr

/-- What the blocks read and do not change within an event: the Reference Unit and the settings. -/
structure Env where
  ref : RefUnit
  cfg : Settings
deriving DecidableEq, Repr

/-- The part but for its control port queues and input pins. -/
structure Dev where
  env : Env
  world : World
deriving DecidableEq, Repr

/-- The levels of the input pins that the part acts on at an edge (R114, R208); `true` is asserted. -/
structure Pins where
  take : Tbl 4 Bool
  hold : Tbl 4 Bool
  reset : Bool
deriving DecidableEq, Repr

/-- The state: the part, its input pins, the count that free values are applied to (the MODEL's own field), and the queue of
the commands that are waiting. -/
structure State where
  ctl : ControlPort
  dev : Dev
  pins : Pins
  free : Nat
  pending : List Instr
deriving DecidableEq, Repr

/-- The reasons a command can stop the part: none. Every behaviour of the manual has an effect, so this type has no
constructor and no step faults. -/
inductive Fault where
deriving DecidableEq, Repr

/-- The reasons a command can be refused a meaning. -/
inductive Refusal where
  /-- Answered by no arm of `exec`: it would be raised by the arm of a command that has no meaning yet. Safe. -/
  | notModelled (mnemonic : String)
deriving DecidableEq, Repr

/-! ### Reset values -/

/-- An INVALID map entry (R141). -/
def MapEntry.invalid : MapEntry :=
  { valid := false, cls := .playout, main := ⟨0, 0⟩, backup := none, active := .main, autoFailover := false,
    preroll := 0, claim := none, waiters := [] }

/-- The default lane configuration (R93). -/
def LaneCfg.default : LaneCfg :=
  { fitMode := .off, lockWindow := 250, lateTolerance := 2, takeGuard := 10, doneRetain := 16, gateTimeout := 0,
    noNextWarn := 250, safeList := [], substitute := none }

/-- The default port settings (R159). -/
def PortCfg.default : PortCfg :=
  { ackTimeout := 5, faultThreshold := 3, recoverCount := 3, probeInterval := 25, burstLimit := 2,
    precedence := [0, 1, 2, 3] }

/-- The default thresholds (R193). -/
def Thresh.default : Thresh := { overT := 50, underT := 250, count := 2, hysteresis := 25 }

/-- A lane record after either reset (R94, R123). -/
def LaneRec.reset : LaneRec :=
  { state := .idle, cursor := none, onAir := none, next := none, operator := false, action := false, gate := false,
    gateDue := none, lastTake := none, loadList := [], cueList := [], actionLevel := 0, fireQueue := [],
    passCount := 0, deferred := [], gateTick := none, lastTick := false }

/-- The timing result of an empty IDLE lane without a hard out (R72). -/
def Timing.empty (fc : Fc) : Timing :=
  { computedAt := fc, remOn := 0, rawOver := none, overA := none, residual := none, absorber := none, plan := [],
    items := [] }

/-- A port record after power-on reset (R160). -/
def Port.reset : Port :=
  { state := .down, fifos := Tbl.fill 4 [], priority := [], burst := none, window := [], nextSeq := 0, failures := 0,
    probeAcks := 0, probeStart := none, received := [], ackTick := none, probeTick := none }

/-- A station record after power-on reset (R177). -/
def Station.reset : Station :=
  { lane := none, present := false, missed := 0, heard := false, standby := none, waiting := [], go := none,
    callFrom := false, callTo := false, thirdMiss := false }

/-- An inactive instance with its latch clear (R191). -/
def Inst.clear : Inst := { active := false, latched := false, count := 0 }

/-- The condition table after either reset, before any judgement (R191). -/
def Monitor.reset : Monitor :=
  { overI := Tbl.fill 4 .clear, underI := Tbl.fill 4 .clear, noNext := Tbl.fill 4 .clear, notReady := Tbl.fill 4 .clear,
    portFault := Tbl.fill 4 .clear, stationLost := Tbl.fill 4 .clear, refLost := .clear,
    gateTimeout := Tbl.fill 4 .clear, clockSlip := .clear, rxOverrun := Tbl.fill 8 .clear,
    stationCall := Tbl.fill 6 .clear, stationHold := Tbl.fill 6 .clear, overCount := Tbl.fill 4 0,
    underCount := Tbl.fill 4 0 }

/-- Free records numbered from `start`, `n` of them, each with allocation count 0 (R2). -/
def freshRecords : Nat → Nat → List Ref
  | _, 0 => []
  | start, n + 1 => ⟨start, 0⟩ :: freshRecords (start + 1) n

/-- The store after power-on reset (R2, R3). -/
def Store.reset : Store :=
  { items := [], freeItems := freshRecords 0 Config.itemRecords,
    freeElements := freshRecords 0 Config.elementRecords, orders := Tbl.fill 4 [], standbys := Tbl.fill 4 none }

/-- The Reference Unit after power-on reset (R71). -/
def RefUnit.reset : RefUnit :=
  { fc := 0, t := 0, rate := .r25, state := .freeRun, acquired := 0, pulseAccepted := false, missingTimer := false,
    internal := some .powerOn, enabled := false, labelCheck := false, slipCount := 3, mismatch := 0,
    pendingLabel := none }

/-- The settings after power-on reset (R93, R159, R193, R200, R207). -/
def Settings.reset : Settings :=
  { lanes := Tbl.fill 4 .default, hardOuts := Tbl.fill 4 none, ports := Tbl.fill 8 .default,
    thresh := Tbl.fill 4 .default, levels := Tbl.fill 4 (Tbl.fill 7 0), attnMask := 0xFFF#12, attnMode := .level }

/-- Nothing driven on the output pins. -/
def Out.quiet : Out := { sdo := none, cue := [], station := [] }

/-- Nothing due for a lane. -/
def LaneDue.clear : LaneDue := { recompute := false, result := false, elements := false }

/-- The blocks after power-on reset. -/
def World.reset : World :=
  { store := .reset, lanes := Tbl.fill 4 .reset, timing := Tbl.fill 4 (.empty 0), map := Tbl.fill 64 .invalid,
    rolls := Tbl.fill 64 none, ports := Tbl.fill 8 .reset, stations := Tbl.fill 6 .reset, monitor := .reset,
    pulse := { phase := .idle, pending := 0 }, due := Tbl.fill 4 .clear, loads := 0, out := .quiet }

/-- The part after power-on reset. -/
def Dev.reset : Dev := { env := { ref := .reset, cfg := .reset }, world := .reset }

/-- Empty control port queues, the overrun flag clear (R208). -/
def ControlPort.reset : ControlPort := { requests := [], responses := [], overrun := false }

/-- Every panel line and RESET_N released. -/
def Pins.released : Pins := { take := Tbl.fill 4 false, hold := Tbl.fill 4 false, reset := false }

/-- The machine right after power-on reset, with every input pin released and no command waiting (Reset summary, R3, R71, R94,
R142, R160, R177, R191, R207, R208). -/
def State.reset : State :=
  { ctl := .reset, dev := .reset, pins := .released, free := 0, pending := [] }

end Sys2Proof.Machine
end

