-- ==== Sys2Proof/Machine/Clock.lean ====
section
/-! DEFINITION. Rates, time-of-day labels, the second boundary and countdown seconds (R59 to R64, R70). -/
namespace Sys2Proof.Machine

/-- Nominal frames per second (R59). -/
def Rate.nominal : Rate → Nat
  | .r25 => 25
  | .r50 => 50
  | .r2997 => 30
  | .r5994 => 60

/-- Frames per day, D (R59). -/
def Rate.day : Rate → Nat
  | .r25 => 2160000
  | .r50 => 4320000
  | .r2997 => 2589408
  | .r5994 => 5178816

/-- Labels left out at the start of a short minute: 0 at the rates without drop-frame. -/
def Rate.dropped : Rate → Nat
  | .r25 => 0
  | .r50 => 0
  | .r2997 => 2
  | .r5994 => 4

/-- The frame period in units of 1/120,000 s (R59). -/
def Rate.period : Rate → Nat
  | .r25 => 4800
  | .r50 => 2400
  | .r2997 => 4004
  | .r5994 => 2002

/-- The count T that frame `n` would have if no label were dropped, at a rate that drops `d` labels (R62). -/
def undroppedCount (nominal d n : Nat) : Nat :=
  let tenMinutes := 600 * nominal - 9 * d
  let shortMinute := 60 * nominal - d
  let d10 := n / tenMinutes
  let m := n % tenMinutes
  if m < d then n + 9 * d * d10 else n + 9 * d * d10 + d * ((m - d) / shortMinute)

/-- The label of the count T (R62). -/
def labelOfCount (nominal t : Nat) : Label :=
  { hh := t / (3600 * nominal), mm := t / (60 * nominal) % 60, ss := t / nominal % 60, ff := t % nominal }

/-- The label of frame count `n`, 0 to D − 1 (R62). -/
def Rate.label (r : Rate) (n : Nat) : Label :=
  labelOfCount r.nominal (if r.dropped = 0 then n else undroppedCount r.nominal r.dropped n)

/-- Whether a label is read at the rate rather than refused (R63). -/
def Rate.reads (r : Rate) (l : Label) : Bool :=
  decide (l.hh < 24) && decide (l.mm < 60) && decide (l.ss < 60) && decide (l.ff < r.nominal)

/-- Whether a label names a dropped label (R63). -/
def Rate.isDropped (r : Rate) (l : Label) : Bool :=
  decide (l.ss = 0) && decide ((60 * l.hh + l.mm) % 10 ≠ 0) && decide (l.ff < r.dropped)

/-- A dropped label taken as the next existing label of its minute (R63). -/
def Rate.clampLabel (r : Rate) (l : Label) : Label :=
  if r.isDropped l then { l with ff := r.dropped } else l

/-- The frame count of an existing label (R63). -/
def Rate.countOf (r : Rate) (l : Label) : Nat :=
  let t := l.hh * (3600 * r.nominal) + l.mm * (60 * r.nominal) + l.ss * r.nominal + l.ff
  let m := 60 * l.hh + l.mm
  t - r.dropped * (m - m / 10)

/-- The frame count a label is read as, a dropped one clamped; none where it is refused (R63). -/
def Rate.read (r : Rate) (l : Label) : Option Nat :=
  if r.reads l then some (r.countOf (r.clampLabel l)) else none

/-- A label of the old rate carried to the new one by its ff, a dropped label clamped (R61, R76). -/
def convertLabel (old new : Rate) (l : Label) : Label :=
  new.clampLabel { l with ff := l.ff * new.nominal / old.nominal }

/-- An exact frame count or distance taken into 0 to D − 1 (R80, R81). -/
def Rate.wrap (r : Rate) (n : Int) : Nat := (n % (r.day : Int)).toNat

/-- A shift of the clock taken modulo D into −D/2 … D/2 − 1 (R66, R68). -/
def Rate.shift (r : Rate) (n : Int) : Int :=
  (n + (r.day : Int) / 2) % (r.day : Int) - (r.day : Int) / 2

/-- Whether a frame arrival that leaves the clock at frame `n` raises a second-boundary event (R64). -/
def Rate.secondBoundary (r : Rate) (n : Nat) : Bool :=
  let l := r.label n
  decide (l.ff = 0) ||
    (decide (r.dropped ≠ 0) && decide (l.ff = r.dropped) && decide (l.ss = 0) && decide (l.mm % 10 ≠ 0))

/-- The countdown seconds of a distance in frames (R70). -/
def Rate.countdown (r : Rate) (f : Int) : Nat :=
  let n := f.toNat
  match r with
  | .r25 => (n + 24) / 25
  | .r50 => (n + 49) / 50
  | .r2997 => (n * 1001 + 29999) / 30000
  | .r5994 => (n * 1001 + 59999) / 60000

end Sys2Proof.Machine
end

