-- ==== Sys2Proof/Machine/Framing.lean ====
section
/-! DEFINITION. The frames of the cue links and station links: the CRC (R172) and the frame shape (R211, R212). -/
namespace Sys2Proof.Machine

/-- One bit of the CRC register: generator x^16 + x^12 + x^5 + 1 (R172). -/
def crcBit (r : BitVec 16) : BitVec 16 :=
  if r.msb then (r <<< 1) ^^^ 0x1021#16 else r <<< 1

/-- One byte, most significant bit first (R172). -/
def crcByte (r : BitVec 16) (b : Byte) : BitVec 16 :=
  let r0 := r ^^^ ((b.setWidth 16) <<< 8)
  crcBit (crcBit (crcBit (crcBit (crcBit (crcBit (crcBit (crcBit r0)))))))

/-- The CRC of a run of bytes: register starting at all ones, no final inversion (R172). -/
def crc16 (bytes : List Byte) : BitVec 16 := bytes.foldl crcByte 0xFFFF#16

/-- The start byte of a link frame (R211). -/
def startByte : Byte := 0xC3#8

/-- A link frame of kind `kind` with its fields (R211). -/
def linkFrame (kind : Byte) (fields : List Byte) : List Byte :=
  let body := startByte :: BitVec.ofNat 8 (fields.length + 1) :: kind :: fields
  body ++ [(crc16 body).extractLsb' 8 8, (crc16 body).extractLsb' 0 8]

/-- The bytes from the first start byte on: the receiver looks for it and passes over what comes before (R211). -/
def fromStart (bytes : List Byte) : List Byte := bytes.dropWhile (fun b => decide (b ≠ startByte))

/-- The kind and fields of the frame in the bytes received with one frame's arrival, from their first start byte on; none where it is
discarded by the checks of R172 and R211. That a frame which fails is not looked for again at a later start byte is the model's choice
(log 59). -/
def checkFrame (bytes : List Byte) : Option (Byte × List Byte) :=
  match fromStart bytes with
  | st :: len :: kind :: rest =>
    let n := len.toNat
    if 1 ≤ n ∧ n ≤ 40 ∧ rest.length = n + 1 then
      let fields := rest.take (n - 1)
      let c := crc16 (st :: len :: kind :: fields)
      if rest.drop (n - 1) = [c.extractLsb' 8 8, c.extractLsb' 0 8] then some (kind, fields) else none
    else none
  | _ => none

/-- The messages a station sends (R211). -/
inductive StationMsg where
  | alive
  | ready
  | hold
  | call
deriving DecidableEq, Repr

/-- The station message of a checked frame, where its kind and fields are those of the table of R211. -/
def stationMsg? (kind : Byte) (fields : List Byte) : Option StationMsg :=
  if fields.length = 0 then
    if kind = 0x91#8 then some .alive
    else if kind = 0x92#8 then some .ready
    else if kind = 0x93#8 then some .hold
    else if kind = 0x94#8 then some .call
    else none
  else none

/-- Whether the bytes are a checked frame carrying one of the four station messages. -/
def isStationMessage (bytes : List Byte) : Bool :=
  match checkFrame bytes with
  | some (kind, fields) => (stationMsg? kind fields).isSome
  | none => false

end Sys2Proof.Machine
end

