-- ==== Sys2Proof/Machine/Ops.lean ====
section
/-! DEFINITION. The named operations over the records: elements, items, pools, orders, and the fields of the world. -/
namespace Sys2Proof.Machine

/-! ### Elements -/

/-- The logical device an element names (R20). -/
def Content.device? : Content → Option (Fin 64)
  | .clip d _ => some d
  | .clipStop d => some d
  | .gfxIn d _ _ => some d
  | .gfxOut d _ => some d
  | .cue _ _ _ => none

/-- Whether the kind is CLIP. -/
def Content.isClip : Content → Bool
  | .clip _ _ => true
  | _ => false

/-- The station of a CUE. -/
def Content.station? : Content → Option (Fin 6)
  | .cue st _ _ => some st
  | _ => none

/-- Whether the element is a gating CUE (R20). -/
def Content.isGating : Content → Bool
  | .cue _ _ g => g
  | _ => false

/-- The standby lead of a CUE, 0 for another kind. -/
def Content.lead : Content → Nat
  | .cue _ n _ => n
  | _ => 0

/-- A CLIP on logical device `d`. -/
def Element.isClipOn (d : Fin 64) (el : Element) : Bool :=
  el.content.isClip && decide (el.content.device? = some d)

/-- An element as it is created (R21). -/
def Element.create (ref : Ref) (content : Content) (offset : Nat) : Element :=
  { ref, content, offset, fire := .waiting, load := .unloaded, loadTarget := none, loadFailure := none,
    failReason := none, late := false, pass := 0, shift := 0 }

/-- An element with its operating fields at their creation values (R21). -/
def Element.renew (el : Element) : Element := Element.create el.ref el.content el.offset

/-- An element whose load state returns to UNLOADED (R21). -/
def Element.unload (el : Element) : Element :=
  { el with load := .unloaded, loadTarget := none, loadFailure := none }

/-- An element FAILED with a reason (R21). -/
def Element.fail (reason : FailReason) (el : Element) : Element :=
  { el with fire := .failed, failReason := some reason }

/-- An element back in fire state WAITING, with no fail reason (R21). -/
def Element.await (el : Element) : Element := { el with fire := .waiting, failReason := none }

/-- The load failure as a fail reason (R129, R130). -/
def LoadFailure.reason : LoadFailure → FailReason
  | .nakNotFound => .nakNotFound
  | .nakRefused => .nakRefused
  | .nakBusy => .nakBusy
  | .timeout => .timeout
  | .portBusy => .portBusy
  | .portFault => .portFault

/-! ### Items -/

/-- The reference to an element of an item (R2). -/
def Item.refOf (it : Item) (el : Element) : ElemRef := ⟨it.ref, el.ref⟩

/-- The failed elements count: elements in fire state FAILED or SKIPPED (R17, R134). -/
def Item.failed (it : Item) : Nat :=
  it.elements.countP (fun el => decide (el.fire = .failed) || decide (el.fire = .skipped))

/-- Live pending: state PENDING or NEXT, disposition IN (R9). -/
def Item.livePending (it : Item) : Bool :=
  (decide (it.state = .pending) || decide (it.state = .next)) && decide (it.disposition = .inOrder)

/-- The element of the item with record `r`, with its index. -/
def Item.index? (it : Item) (r : Ref) : Option Nat := it.elements.findIdx? (fun el => decide (el.ref = r))

/-- Whether the item has a CLIP element naming logical device `d`. -/
def Item.hasClipOn (it : Item) (d : Fin 64) : Bool := it.elements.any (·.isClipOn d)

/-- Elements in order of offset, ties in order of index (R98). -/
def byOffset (els : List Element) : List Element := els.insertionSort (fun a b => a.offset ≤ b.offset)

/-- The gating CUE of an item (R111). -/
def Item.gating? (it : Item) : Option Element := it.elements.find? (·.content.isGating)

/-- The elements with one inserted at index `i` (R19). -/
def insertAt (els : List Element) (i : Nat) (el : Element) : List Element := els.take i ++ el :: els.drop i

/-- The end mode after an element is inserted at index `i` (R11). -/
def EndMode.inserted (i : Nat) : EndMode → EndMode
  | .clip k => .clip (if i ≤ k then k + 1 else k)
  | m => m

/-- The end mode after the element at index `i` is deleted (R11). -/
def EndMode.deleted (i : Nat) : EndMode → EndMode
  | .clip k => if i = k then .manual else .clip (if i < k then k - 1 else k)
  | m => m

/-- The cycle after an element is inserted at index `i` (R13). -/
def Cycle.inserted (i : Nat) (c : Cycle) : Option Cycle :=
  if i ≤ c.first then
    if 31 ≤ c.first then none else some { c with first := c.first + 1, last := min (c.last + 1) 31 }
  else if i ≤ c.last then some { c with last := min (c.last + 1) 31 }
  else some c

/-- The cycle after the element at index `i` is deleted (R13). -/
def Cycle.deleted (i : Nat) (c : Cycle) : Option Cycle :=
  if i < c.first then some { c with first := c.first - 1, last := c.last - 1 }
  else if i ≤ c.last then (if c.first = c.last then none else some { c with last := c.last - 1 })
  else some c

/-! ### The store -/

/-- The item under a key of the index (R4). -/
def Store.item? (s : Store) (k : Nat) : Option Item := s.items.find? (fun it => decide (it.key = k))

/-- The items in use with the one under key `k` changed by `f`. -/
def Store.modItem (s : Store) (k : Nat) (f : Item → Item) : Store :=
  { s with items := s.items.map (fun it => if it.key = k then f it else it) }

/-- The item and element a reference finds: both records in use under the reference's allocation counts (R2). -/
def Store.elem? (s : Store) (r : ElemRef) : Option (Item × Element) :=
  match s.items.find? (fun it => decide (it.ref = r.item)) with
  | none => none
  | some it => (it.elements.find? (fun el => decide (el.ref = r.elem))).map (fun el => (it, el))

/-- The elements with the one of record `e` changed by `f`. -/
def modElems (els : List Element) (e : Ref) (f : Element → Element) : List Element :=
  els.map (fun el => if el.ref = e then f el else el)

/-- The store with the element a reference finds changed by `f`; nothing changes where it finds none (R2). -/
def Store.modElem (s : Store) (r : ElemRef) (f : Element → Element) : Store :=
  { s with items := s.items.map (fun it =>
      if it.ref = r.item then { it with elements := modElems it.elements r.elem f } else it) }

/-- A record allocated: its count advanced (R2). -/
def Ref.allocated (r : Ref) : Ref := { r with alloc := r.alloc + 1 }

/-- The first `n` free records of a pool, allocated, and the records left free; none where too few are free (R1). -/
def allocate (free : List Ref) (n : Nat) : Option (List Ref × List Ref) :=
  if free.length < n then none else some ((free.take n).map Ref.allocated, free.drop n)

/-- The part of an order below the cursor position, or all of it when that is none (R9). -/
def belowCursor (order : List Nat) : Option Nat → List Nat
  | none => order
  | some c => (order.dropWhile (fun k => decide (k ≠ c))).drop 1

/-- The items of a list of keys. -/
def Store.itemsOf (s : Store) (keys : List Nat) : List Item := keys.filterMap s.item?

/-- The included items of a lane's order, from the top (R9). -/
def Store.included (s : Store) (l : Fin 4) (cursor : Option Nat) : List Item :=
  (s.itemsOf (belowCursor (s.orders.get l) cursor)).filter Item.livePending

/-- Whether an item is passed: live pending at or above the cursor position (R9). -/
def Store.passed (s : Store) (cursor : Option Nat) (it : Item) : Bool :=
  decide (it.place = .order) && it.livePending && !((belowCursor (s.orders.get it.lane) cursor).contains it.key)

/-- Whether an item is included (R9). -/
def Store.isIncluded (s : Store) (cursor : Option Nat) (it : Item) : Bool :=
  decide (it.place = .order) && it.livePending && (belowCursor (s.orders.get it.lane) cursor).contains it.key

/-- The key immediately above `k` in an order (R8). -/
def above? (order : List Nat) (k : Nat) : Option Nat := (order.takeWhile (fun x => decide (x ≠ k))).getLast?

/-! ### The world -/

/-- The Fc of the most recent frame arrival. -/
def Env.now (e : Env) : Fc := e.ref.fc

def World.lane (w : World) (l : Fin 4) : LaneRec := w.lanes.get l

def World.setStore (w : World) (s : Store) : World := { w with store := s }

def World.setLane (w : World) (l : Fin 4) (r : LaneRec) : World := { w with lanes := w.lanes.set l r }

/-- A lane record changed by `f`. -/
def World.modLane (w : World) (l : Fin 4) (f : LaneRec → LaneRec) : World := w.setLane l (f (w.lane l))

def World.setPort (w : World) (p : Fin 8) (r : Port) : World := { w with ports := w.ports.set p r }

/-- A port record changed by `f`. -/
def World.modPort (w : World) (p : Fin 8) (f : Port → Port) : World := w.setPort p (f (w.ports.get p))

def World.setStation (w : World) (st : Fin 6) (r : Station) : World := { w with stations := w.stations.set st r }

/-- A station record changed by `f`. -/
def World.modStation (w : World) (st : Fin 6) (f : Station → Station) : World := w.setStation st (f (w.stations.get st))

def World.setEntry (w : World) (d : Fin 64) (m : MapEntry) : World := { w with map := w.map.set d m }

/-- A map entry changed by `f`. -/
def World.modEntry (w : World) (d : Fin 64) (f : MapEntry → MapEntry) : World := w.setEntry d (f (w.map.get d))

def World.setMonitor (w : World) (m : Monitor) : World := { w with monitor := m }

def World.setTiming (w : World) (l : Fin 4) (t : Timing) : World := { w with timing := w.timing.set l t }

def World.setDue (w : World) (l : Fin 4) (d : LaneDue) : World := { w with due := w.due.set l d }

/-- The item under a key. -/
def World.item? (w : World) (k : Nat) : Option Item := w.store.item? k

/-- The world with the item under key `k` changed by `f`. -/
def World.modItem (w : World) (k : Nat) (f : Item → Item) : World := w.setStore (w.store.modItem k f)

/-- A lane's NEXT item. -/
def World.nextItem? (w : World) (l : Fin 4) : Option Item := (w.lane l).next.bind w.item?

/-- A lane's ON_AIR item. -/
def World.onAirItem? (w : World) (l : Fin 4) : Option Item := (w.lane l).onAir.bind w.item?

/-- A lane is to be recomputed before the event in hand ends (R73). -/
def World.askRecompute (w : World) (l : Fin 4) : World := w.setDue l { w.due.get l with recompute := true }

/-- The world with the element a reference finds changed by `f` (R2). A change of the load or fire state of a NEXT item's
element makes NOT_READY of its lane due for judgement (R194). -/
def World.modElem (w : World) (r : ElemRef) (f : Element → Element) : World :=
  match w.store.elem? r with
  | none => w
  | some (it, el) =>
    let w' := w.setStore (w.store.modElem r f)
    if decide ((w.lane it.lane).next = some it.key) &&
        (decide ((f el).fire ≠ el.fire) || decide ((f el).load ≠ el.load)) then
      w'.setDue it.lane { w.due.get it.lane with elements := true }
    else w'

/-- Every element of the item under `k` changed by `f`, in the order of the list. -/
def World.modElements (w : World) (k : Nat) (f : Element → Element) : World :=
  match w.item? k with
  | none => w
  | some it => it.elements.foldl (fun w el => w.modElem (it.refOf el) f) w

/-- A frame put on a cue link. -/
def World.sendCue (w : World) (p : Fin 8) (bytes : List Byte) : World :=
  { w with out := { w.out with cue := w.out.cue ++ [(p, bytes)] } }

/-- A frame put on a station link. -/
def World.sendStation (w : World) (st : Fin 6) (kind : Byte) (fields : List Byte) : World :=
  { w with out := { w.out with station := w.out.station ++ [(st, linkFrame kind fields)] } }

/-- The place of a port and channel in the record of last rolls (R153). -/
def Target.place (t : Target) : Fin 64 :=
  ⟨t.port.val * 8 + t.channel.val, by have := t.port.isLt; have := t.channel.isLt; omega⟩

/-- The record of last rolls with every place that holds the element emptied (R153). -/
def World.forgetRoll (w : World) (r : ElemRef) : World :=
  { w with rolls := w.rolls.map (fun o => match o with
      | some ow => if ow.ref = r then none else some ow
      | none => none) }

/-! ### Freeing (R2, R8) -/

/-- The item under key `k` freed with its elements: the key leaves the index and the item its place, the records return to the
pools, the cursor of a lane that stood at it passes to the item above, and the last rolls of its elements are forgotten. -/
def World.freeItem (w : World) (k : Nat) : World :=
  match w.item? k with
  | none => w
  | some it =>
    let order := w.store.orders.get it.lane
    let w1 := it.elements.foldl (fun w el => w.forgetRoll (it.refOf el)) w
    let w2 := if (w.lane it.lane).cursor = some k then
        w1.modLane it.lane (fun r => { r with cursor := above? order k }) else w1
    w2.setStore { w2.store with
      items := w2.store.items.filter (fun x => decide (x.key ≠ k))
      freeItems := w2.store.freeItems ++ [it.ref]
      freeElements := w2.store.freeElements ++ it.elements.map (·.ref)
      orders := w2.store.orders.set it.lane (order.filter (fun x => decide (x ≠ k)))
      standbys := if w2.store.standbys.get it.lane = some k then w2.store.standbys.set it.lane none
        else w2.store.standbys }

/-- The keys of the DONE items of a lane's order, from the top. -/
def Store.doneKeys (s : Store) (l : Fin 4) : List Nat :=
  ((s.itemsOf (s.orders.get l)).filter (fun it => decide (it.state = .done))).map (·.key)

/-- Done retention: while the DONE items of the lane's order exceed `retain`, the one nearest the top is freed (R23). -/
def World.retain (w : World) (l : Fin 4) (retain : Nat) : World :=
  let done := w.store.doneKeys l
  (done.take (done.length - retain)).foldl (fun w k => w.freeItem k) w

/-- The elapsed time of an item on air: Fnow − Fs, never negative (R16). -/
def Item.elapsed (e : Env) (it : Item) : Nat :=
  match it.start with
  | some st => (fcDist st.fs e.now).toNat
  | none => 0

end Sys2Proof.Machine
end

