-- ==== Sys2Proof/Machine/Operands.lean ====
section
/-! DEFINITION. The encodings of request and response payloads (R209, R210): how the fields of a payload are read and
written, in the order the rules list them. -/
namespace Sys2Proof.Machine

/-! ### Reading -/

/-- A reader of the front of a payload: what it reads and the bytes left, or none where the bytes do not match (R210). -/
abbrev Reader (α : Type) := StateT (List Byte) Option α

/-- A whole payload read by `r`: none where bytes are left over or too few (R204, R210). -/
def readAll {α : Type} (r : Reader α) (payload : List Byte) : Option α :=
  match r payload with
  | some (a, []) => some a
  | _ => none

/-- One unsigned byte. -/
def readByte : Reader Nat := fun bs =>
  match bs with
  | [] => none
  | b :: rest => some (b.toNat, rest)

/-- An unsigned number of `n` bytes, most significant first (R209). -/
def readNat : Nat → Reader Nat
  | 0 => pure 0
  | n + 1 => do
    let high ← readByte
    let low ← readNat n
    pure (high * 256 ^ n + low)

/-- A value refused by its encoding. -/
def Reader.fail {α : Type} : Reader α := fun _ => none

/-- A flag: 0 clear, 1 set (R210). -/
def readFlag : Reader Bool := do
  let b ← readByte
  if b = 0 then pure false else if b = 1 then pure true else Reader.fail

/-- A signed number of three bytes, two's complement (R210). -/
def readSigned : Reader Int := do
  let n ← readNat 3
  pure (if n < 8388608 then (n : Int) else (n : Int) - 16777216)

/-- `n` bytes as they stand. -/
def readBytes : Nat → Reader (List Byte)
  | 0 => pure []
  | n + 1 => do
    let b ← readByte
    let rest ← readBytes n
    pure (BitVec.ofNat 8 b :: rest)

/-- An item label: a length of 0 to 12, then its characters (R210). -/
def readLabelText : Reader (List Byte) := do
  let n ← readByte
  if n ≤ 12 then readBytes n else Reader.fail

/-- A time-of-day label (R210). -/
def readLabel : Reader Label := do
  let hh ← readByte
  let mm ← readByte
  let ss ← readByte
  let ff ← readByte
  pure { hh, mm, ss, ff }

/-- A field that may be left out (R210): not carried, carried with a value, or given by the word its rule names (CLEAR, NONE,
STANDBY, OFF, INVALID). -/
inductive Field (α : Type) where
  | absent
  | given (a : α)
  | word
deriving DecidableEq, Repr

/-- A field that may be left out, its form byte first (R210). -/
def readField {α : Type} (r : Reader α) : Reader (Field α) := do
  let form ← readByte
  if form = 0 then pure .absent
  else if form = 1 then do
    let a ← r
    pure (.given a)
  else if form = 2 then pure .word
  else Reader.fail

/-- A field that may be left out and whose rule names no word for form byte 2. -/
def readOption {α : Type} (r : Reader α) : Reader (Option α) := do
  let f ← readField r
  match f with
  | .absent => pure none
  | .given a => pure (some a)
  | .word => Reader.fail

/-- ON or OFF: form byte 1 or 2 with no value after it (log 4). -/
def readOnOff : Reader Bool := do
  let b ← readByte
  if b = 1 then pure true else if b = 2 then pure false else Reader.fail

/-- `n` things in a row. -/
def readMany {α : Type} (r : Reader α) : Nat → Reader (List α)
  | 0 => pure []
  | n + 1 => do
    let a ← r
    let rest ← readMany r n
    pure (a :: rest)

/-- A list of varying length: a count, then its entries (R210). -/
def readList {α : Type} (r : Reader α) : Reader (List α) := do
  let n ← readByte
  readMany r n

/-! ### Writing -/

/-- A number as `n` bytes, most significant first (R209). -/
def be : Nat → Nat → List Byte
  | 0, _ => []
  | n + 1, v => BitVec.ofNat 8 (v / 256 ^ n) :: be n v

/-- A flag as a byte (R210). -/
def flag (b : Bool) : List Byte := be 1 (if b then 1 else 0)

/-- A signed distance clamped to the range in which distances are reported (Conventions, Time; R82). -/
def clampDistance (d : Int) : Int := max (-(Config.maxDistance : Int)) (min (Config.maxDistance : Int) d)

/-- A signed distance in three bytes, clamped (R82, R210). -/
def signed (d : Int) : List Byte := be 3 ((clampDistance d) % 16777216).toNat

/-- A duration as reported: clamped to the largest (Conventions, Time). -/
def clampDuration (n : Nat) : Nat := min n Config.maxDuration

/-- A duration in three bytes (R210). -/
def duration (n : Nat) : List Byte := be 3 (clampDuration n)

/-- A time-of-day label (R210). -/
def labelBytes (l : Label) : List Byte := be 1 l.hh ++ be 1 l.mm ++ be 1 l.ss ++ be 1 l.ff

/-- An item label: its length, then its characters (R210). -/
def textBytes (l : List Byte) : List Byte := be 1 l.length ++ l

/-- A key, or none as key 0 (R210). -/
def keyBytes (k : Option Nat) : List Byte := be 2 (k.getD 0)

/-- A field that may be absent in a response: form byte 0, or 1 and the value (R210). -/
def optional {α : Type} (f : α → List Byte) : Option α → List Byte
  | none => be 1 0
  | some a => be 1 1 ++ f a

/-- A list of varying length (R210). -/
def listBytes {α : Type} (f : α → List Byte) (xs : List α) : List Byte := be 1 xs.length ++ xs.flatMap f

/-! ### Enumerations in the order the manual lists their values (R210) -/

def Place.code : Place → Nat
  | .order => 0
  | .standby => 1

def ItemState.code : ItemState → Nat
  | .pending => 0
  | .next => 1
  | .onAir => 2
  | .done => 3

def Disposition.code : Disposition → Nat
  | .inOrder => 0
  | .floated => 1
  | .dropped => 2

def EndMode.code : EndMode → Nat
  | .manual => 0
  | .timed => 1
  | .clip _ => 2

/-- The end clip index of end mode CLIP (R11). -/
def EndMode.index? : EndMode → Option Nat
  | .clip i => some i
  | _ => none

def Content.kindCode : Content → Nat
  | .clip _ _ => 0
  | .clipStop _ => 1
  | .gfxIn _ _ _ => 2
  | .gfxOut _ _ => 3
  | .cue _ _ _ => 4

def FireState.code : FireState → Nat
  | .waiting => 0
  | .queued => 1
  | .sent => 2
  | .done => 3
  | .failed => 4
  | .skipped => 5
  | .ended => 6

def LoadState.code : LoadState → Nat
  | .unloaded => 0
  | .conflict => 1
  | .loading => 2
  | .loaded => 3
  | .loadFailed => 4

def FailReason.code : FailReason → Nat
  | .unmapped => 0
  | .portFault => 1
  | .portBusy => 2
  | .timeout => 3
  | .nakNotFound => 4
  | .nakRefused => 5
  | .nakBusy => 6
  | .wrongLane => 7
  | .late => 8

def LaneState.code : LaneState → Nat
  | .idle => 0
  | .standby => 1
  | .running => 2
  | .held => 3
  | .waiting => 4
  | .filling => 5

def FitMode.code : FitMode → Nat
  | .off => 0
  | .advise => 1
  | .auto => 2

def fitMode? : Nat → Option FitMode
  | 0 => some .off
  | 1 => some .advise
  | 2 => some .auto
  | _ => none

def Rate.code : Rate → Nat
  | .r25 => 0
  | .r50 => 1
  | .r2997 => 2
  | .r5994 => 3

def rate? : Nat → Option Rate
  | 0 => some .r25
  | 1 => some .r50
  | 2 => some .r2997
  | 3 => some .r5994
  | _ => none

def RefState.code : RefState → Nat
  | .freeRun => 0
  | .acquiring => 1
  | .locked => 2

def DevClass.code : DevClass → Nat
  | .playout => 0
  | .graphics => 1

def devClass? : Nat → Option DevClass
  | 0 => some .playout
  | 1 => some .graphics
  | _ => none

def Side.code : Side → Nat
  | .main => 0
  | .backup => 1

def side? : Nat → Option Side
  | 0 => some .main
  | 1 => some .backup
  | _ => none

def PortState.code : PortState → Nat
  | .down => 0
  | .inService => 1
  | .faulted => 2

def Response.code : Response → Nat
  | .none => 0
  | .ready => 1
  | .hold => 2

def AttnMode.code : AttnMode → Nat
  | .level => 0
  | .pulse => 1

def attnMode? : Nat → Option AttnMode
  | 0 => some .level
  | 1 => some .pulse
  | _ => none

/-- The statuses a response carries (R204). -/
inductive Status where
  | ok
  | busy
  | noRoom
  | notFound
  | duplicate
  | stale
  | limit
  | badArg
  | onAir
  | noNext
  | wrongState
  | tooSoon
  | unknown
deriving DecidableEq, Repr

/-- The value of a status (R204). -/
def Status.code : Status → Nat
  | .ok => 0
  | .busy => 1
  | .noRoom => 2
  | .notFound => 3
  | .duplicate => 4
  | .stale => 5
  | .limit => 6
  | .badArg => 7
  | .onAir => 8
  | .noNext => 9
  | .wrongState => 10
  | .tooSoon => 11
  | .unknown => 12

end Sys2Proof.Machine
end

