-- ==== Sys2Proof/Machine/Flags.lean ====
section
/-! DEFINITION. What is computed from flags: a lane's state from its held-by flags (R95), the attention causes from the latched
flags (R201), the ATTN line and summary (R206) and the status byte (R202, R209). -/
namespace Sys2Proof.Machine

/-- The state of a lane that is not IDLE, from what it has on air (none, the standby item, or an ORDER item) and its held-by
flags (R95). -/
def laneStateOf (onAir : Option Place) (r : LaneRec) : LaneState :=
  match onAir with
  | none => .standby
  | some .standby => .filling
  | some .order =>
    if r.operator || r.action then .held else if r.gate then .waiting else .running

/-- The place of the item that a lane has on air. -/
def World.onAirPlace (w : World) (l : Fin 4) : Option Place := (w.onAirItem? l).map (·.place)

/-- The lane's state set anew by R95; an IDLE lane stays IDLE. -/
def World.setState (w : World) (l : Fin 4) : World :=
  w.modLane l (fun r => if r.state = .idle then r else { r with state := laneStateOf (w.onAirPlace l) r })

/-- The held-by flags as a byte: bit 0 OPERATOR, bit 1 ACTION, bit 2 GATE (R210). -/
def LaneRec.flags (r : LaneRec) : Nat :=
  (if r.operator then 1 else 0) + (if r.action then 2 else 0) + (if r.gate then 4 else 0)

/-- The twelve conditions, in the order of the condition table (R190). -/
inductive Cond where
  | overC
  | underC
  | noNext
  | notReady
  | portFault
  | stationLost
  | refLost
  | gateTimeout
  | clockSlip
  | rxOverrun
  | stationCall
  | stationHold
deriving DecidableEq, Repr

/-- The bit of a condition's cause in the mask (R210). -/
def Cond.bit : Cond → Nat
  | .overC => 0
  | .underC => 1
  | .noNext => 2
  | .notReady => 3
  | .portFault => 4
  | .stationLost => 5
  | .refLost => 6
  | .gateTimeout => 7
  | .clockSlip => 8
  | .rxOverrun => 9
  | .stationCall => 10
  | .stationHold => 11

/-- Whether some place of a table of instances is latched. -/
def anyLatched {n : Nat} (t : Tbl n Inst) : Bool := t.cells.any (·.latched)

/-- Whether a cause is latched: at least one instance of its condition has its latched flag set (R201). -/
def Monitor.cause (m : Monitor) : Cond → Bool
  | .overC => anyLatched m.overI
  | .underC => anyLatched m.underI
  | .noNext => anyLatched m.noNext
  | .notReady => anyLatched m.notReady
  | .portFault => anyLatched m.portFault
  | .stationLost => anyLatched m.stationLost
  | .refLost => m.refLost.latched
  | .gateTimeout => anyLatched m.gateTimeout
  | .clockSlip => m.clockSlip.latched
  | .rxOverrun => anyLatched m.rxOverrun
  | .stationCall => anyLatched m.stationCall
  | .stationHold => anyLatched m.stationHold

/-- The conditions in order. -/
def Cond.all : List Cond :=
  [.overC, .underC, .noNext, .notReady, .portFault, .stationLost, .refLost, .gateTimeout, .clockSlip, .rxOverrun,
    .stationCall, .stationHold]

/-- The set of latched causes as a mask (R201, R210). -/
def Monitor.causes (m : Monitor) : BitVec 12 :=
  Cond.all.foldl (fun acc c => if m.cause c then acc ||| (1#12 <<< c.bit) else acc) 0#12

/-- Whether a cause is masked: a set bit masks it (R207). -/
def Settings.masked (c : Settings) (k : Cond) : Bool := c.attnMask.getLsbD k.bit

/-- The ATTN summary: at least one cause that is not masked is latched (R202). -/
def attnSummary (c : Settings) (m : Monitor) : Bool := Cond.all.any (fun k => m.cause k && !c.masked k)

/-- Whether ATTN is asserted: released while RESET_N is low (R208); in LEVEL mode as the summary says, in PULSE mode during a
pulse (R206). -/
def State.attn (s : State) : Bool :=
  !s.pins.reset &&
    (match s.dev.env.cfg.attnMode with
     | .level => attnSummary s.dev.env.cfg s.dev.world.monitor
     | .pulse => decide (s.dev.world.pulse.phase = .asserted))

/-- The status byte: free request slots, responses waiting, ATTN summary, overrun flag (R202, R209). -/
def State.statusByte (s : State) : Byte :=
  BitVec.ofNat 8 ((Config.controlQueueSize - s.ctl.requests.length) * 32 + s.ctl.responses.length * 4 +
    (if attnSummary s.dev.env.cfg s.dev.world.monitor then 2 else 0) + (if s.ctl.overrun then 1 else 0))

end Sys2Proof.Machine
end

