-- ==== Sys2Proof/Machine/Stations.lean ====
section
/-! DEFINITION. The Station Unit: standby and go slots, waiting lists, countdowns, presence and what is sent to the stations
(R176 to R189). -/
namespace Sys2Proof.Machine

/-! ### Messages to a station (R211) -/

def World.sendShowStandby (w : World) (st : Fin 6) (label : List Byte) (countdown : Nat) : World :=
  w.sendStation st 0x11#8 (textBytes label ++ be 3 countdown)

def World.sendCount (w : World) (st : Fin 6) (countdown : Nat) : World := w.sendStation st 0x12#8 (be 3 countdown)

def World.sendClearStandby (w : World) (st : Fin 6) : World := w.sendStation st 0x13#8 []

def World.sendShowGo (w : World) (st : Fin 6) (label : List Byte) : World := w.sendStation st 0x14#8 (textBytes label)

def World.sendClearGo (w : World) (st : Fin 6) : World := w.sendStation st 0x15#8 []

/-- CALL_ON or CALL_OFF. -/
def World.sendCall (w : World) (st : Fin 6) (on : Bool) : World :=
  w.sendStation st (if on then 0x16#8 else 0x17#8) []

def World.sendCallAnswered (w : World) (st : Fin 6) : World := w.sendStation st 0x18#8 []

/-! ### Distances and countdowns -/

/-- The current distance of a request: the distance last handed less the frames since, and 0 when that is negative (R183). -/
def StandbyReq.current (e : Env) (r : StandbyReq) : Int := max 0 (r.distance - fcDist r.handed e.now)

/-- The waiting request with the smallest current distance, ties to the earlier arrival (R182). -/
def soonest (e : Env) : List StandbyReq → Option StandbyReq
  | [] => none
  | r :: rest =>
    match soonest e rest with
    | none => some r
    | some b => if b.current e < r.current e then some b else some r

/-- A cue put into the empty standby slot of a station, with response NONE; SHOW_STANDBY carries the countdown of its current
distance, which is recorded as last sent (R181, R182). -/
def World.showStandby (e : Env) (w : World) (st : Fin 6) (r : StandbyReq) : World :=
  let cd := e.ref.rate.countdown (r.current e)
  (w.modStation st (fun s => { s with standby := some { req := r, countdown := cd, response := .none } })).sendShowStandby
    st r.label cd

/-- The standby slot, where it is empty, filled from the waiting list (R182). -/
def World.fillStandby (e : Env) (w : World) (st : Fin 6) : World :=
  let s := w.stations.get st
  if s.standby.isSome then w
  else
    match soonest e s.waiting with
    | none => w
    | some r =>
      World.showStandby e (w.modStation st (fun s => { s with waiting := s.waiting.filter (fun x => decide (x.ref ≠ r.ref)) }))
        st r

/-! ### What the lanes ask (R181, R183 to R185) -/

/-- The Unit's answer to a lane that asks it to show standby (R181). -/
inductive StandbyAnswer where
  | wrongLane
  | dropped
  | taken
  | waits
deriving DecidableEq, Repr

/-- A new distance handed for a cue: it replaces the distance in the slot or in the waiting list, and COUNT is sent at once
for a shown cue whose countdown grows, or falls by 2 or more (R183). -/
def World.handDistance (e : Env) (w : World) (st : Fin 6) (ref : ElemRef) (d : Int) : World :=
  let s := w.stations.get st
  match s.standby with
  | some c =>
    if c.req.ref = ref then
      let req := { c.req with distance := d, handed := e.now }
      let cd := e.ref.rate.countdown d
      if c.countdown < cd ∨ cd + 2 ≤ c.countdown then
        (w.modStation st (fun s => { s with standby := some { c with req, countdown := cd } })).sendCount st cd
      else w.modStation st (fun s => { s with standby := some { c with req } })
    else
      w.modStation st (fun s => { s with waiting := s.waiting.map (fun r =>
        if r.ref = ref then { r with distance := d, handed := e.now } else r) })
  | none =>
    w.modStation st (fun s => { s with waiting := s.waiting.map (fun r =>
      if r.ref = ref then { r with distance := d, handed := e.now } else r) })

/-- Whether a cue stands in a station's standby slot or waiting list. -/
def Station.holdsStandby (s : Station) (ref : ElemRef) : Bool :=
  (match s.standby with
   | some c => decide (c.req.ref = ref)
   | none => false) || s.waiting.any (fun r => decide (r.ref = ref))

/-- Whether a cue stands in a station's go slot. -/
def Station.holdsGo (s : Station) (ref : ElemRef) : Bool :=
  match s.go with
  | some g => decide (g.ref = ref)
  | none => false

/-- A lane asks for a cue's standby (R181). -/
def World.askStandby (e : Env) (w : World) (l : Fin 4) (st : Fin 6) (key : Nat) (ref : ElemRef) (label : List Byte)
    (d : Int) : World × StandbyAnswer :=
  let s := w.stations.get st
  if s.lane ≠ some l then (w, .wrongLane)
  else if !s.present then (w, .dropped)
  else if s.holdsStandby ref then (World.handDistance e w st ref d, .taken)
  else
    let w1 := if s.holdsGo ref then (w.modStation st (fun s => { s with go := none })).sendClearGo st else w
    let req : StandbyReq := { lane := l, key, ref, label, distance := d, handed := e.now }
    if s.standby.isNone then (World.showStandby e w1 st req, .taken)
    else (w1.modStation st (fun s => { s with waiting := s.waiting ++ [req] }), .waits)

/-- The cues that satisfy `p` cleared from a station: waiting ones withdrawn, then the standby slot with CLEAR_STANDBY and its
refill, then, where `go` asks it, the go slot with CLEAR_GO (R184; the order is log 12). -/
def World.clearCues (e : Env) (w : World) (st : Fin 6) (p : Fin 4 → ElemRef → Bool) (go : Bool) : World :=
  let s := w.stations.get st
  let w1 := w.modStation st (fun s => { s with waiting := s.waiting.filter (fun r => !(p r.lane r.ref)) })
  let w2 := match s.standby with
    | some c =>
      if p c.req.lane c.req.ref then
        World.fillStandby e ((w1.modStation st (fun s => { s with standby := none })).sendClearStandby st) st
      else w1
    | none => w1
  match s.go, s.lane with
  | some g, some l =>
    if go && p l g.ref then (w2.modStation st (fun s => { s with go := none })).sendClearGo st else w2
  | _, _ => w2

/-- One cue cleared from a station's standby slot or waiting list, and from its go slot where `go` asks it (R184). -/
def World.clearCue (e : Env) (w : World) (st : Fin 6) (ref : ElemRef) (go : Bool) : World :=
  World.clearCues e w st (fun _ r => decide (r = ref)) go

/-- One cue cleared from every station, its go slot too: that of an element REMOVED from the item on air, which may stand on a station
that its record no longer names (R44, R138, R139, R184; log 12). -/
def World.clearCueEverywhere (e : Env) (w : World) (ref : ElemRef) : World :=
  (places 6).foldl (fun w st => World.clearCue e w st ref true) w

/-- Every cue of an item cleared from every station (R102, R140, R184). -/
def World.clearItemCues (e : Env) (w : World) (item : Ref) (go : Bool) : World :=
  (places 6).foldl (fun w st => World.clearCues e w st (fun _ r => decide (r.item = item)) go) w

/-- Every cue of a lane cleared from every station (R116, R184). -/
def World.clearLaneCues (e : Env) (w : World) (l : Fin 4) : World :=
  (places 6).foldl (fun w st => World.clearCues e w st (fun l' _ => decide (l' = l)) true) w

/-- A lane gives GO for a cue: shown, or failed with the reason (R185). -/
def World.giveGo (e : Env) (w : World) (l : Fin 4) (st : Fin 6) (key : Nat) (ref : ElemRef) (label : List Byte) :
    World × Option FailReason :=
  let s := w.stations.get st
  if s.lane ≠ some l then (w, some .wrongLane)
  else if !s.present then (w, some .portFault)
  else
    let shown := match s.standby with
      | some c => decide (c.req.ref = ref)
      | none => false
    let w1 := if shown then (w.modStation st (fun s => { s with standby := none })).sendClearStandby st else w
    let w2 := w1.modStation st (fun s =>
      { s with waiting := s.waiting.filter (fun r => decide (r.ref ≠ ref)), go := some { key, ref, label } })
    (World.fillStandby e (w2.sendShowGo st label) st, none)

/-! ### Presence (R178, R179) -/

/-- A message is heard from a station: a station that was ABSENT becomes PRESENT and is brought into step (R178). -/
def World.hear (w : World) (st : Fin 6) : World :=
  let s := w.stations.get st
  let w1 := w.modStation st (fun s => { s with heard := true, missed := 0, present := true })
  if s.present then w1 else ((w1.sendClearStandby st).sendClearGo st).sendCall st s.callTo

/-- A station becomes ABSENT: its slots and waiting list are emptied and nothing is sent (R179). -/
def Station.lose (s : Station) : Station :=
  { s with present := false, missed := 3, standby := none, waiting := [], go := none }

/-- What a second boundary does to one PRESENT station's count, but for a third miss, which it leaves to be taken by
STATION_ABSENT (R178, log 6). -/
def Station.boundary (s : Station) : Station :=
  if !s.present then s
  else if s.heard then { s with heard := false }
  else if s.missed < 2 then { s with missed := s.missed + 1 }
  else { s with thirdMiss := true }

/-- A second boundary in the Station Unit: COUNT to each station with a cue in its standby slot (R183), and the presence counts
(R178). -/
def World.stationBoundary (e : Env) (w : World) : World :=
  (places 6).foldl (fun w st =>
    let w1 := match (w.stations.get st).standby with
      | some c =>
        let cd := e.ref.rate.countdown (c.req.current e)
        (w.modStation st (fun s => { s with standby := some { c with countdown := cd } })).sendCount st cd
      | none => w
    w1.modStation st Station.boundary) w

/-- The third missed boundary of a station is taken: a message heard first is found by it, and otherwise the station becomes
ABSENT (R178, R179). -/
def World.takeThirdMiss (w : World) (st : Fin 6) : World :=
  w.modStation st (fun s =>
    if !s.thirdMiss then s
    else
      let s1 := { s with thirdMiss := false }
      if !s.present then s1
      else if s.heard then { s1 with heard := false }
      else s1.lose)

end Sys2Proof.Machine
end

