-- ==== Sys2Proof/Machine/Ports.lean ====
section
/-! DEFINITION. The Cue Link Ports: taking messages, the arbiter, transmission and the health state (R159 to R175). What an
answer does to the lane that owns it is in Sequencer.lean. -/
namespace Sys2Proof.Machine

/-! ### Transmission (R164, R165) -/

/-- The frame of a message with its seq (R211). -/
def CueMsg.frame (seq : BitVec 8) : CueMsg → List Byte
  | .load ch clip => linkFrame 0x01#8 (seq :: be 1 ch.val ++ be 4 clip.toNat)
  | .roll ch => linkFrame 0x02#8 (seq :: be 1 ch.val)
  | .stopClip ch => linkFrame 0x03#8 (seq :: be 1 ch.val)
  | .gfxIn ch tmpl dat => linkFrame 0x04#8 (seq :: be 1 ch.val ++ be 2 tmpl.toNat ++ be 4 dat.toNat)
  | .gfxOut ch tmpl => linkFrame 0x05#8 (seq :: be 1 ch.val ++ be 2 tmpl.toNat)
  | .safe ch => linkFrame 0x06#8 (seq :: be 1 ch.val)
  | .probe => linkFrame 0x07#8 [seq]

/-- Whether an outstanding record holds a seq. -/
def Port.holdsSeq (p : Port) (seq : BitVec 8) : Bool := p.window.any (fun r => decide (r.seq = seq))

/-- The seq given to a message: next seq, or the first value after it that no outstanding record holds (R165). -/
def Port.freeSeq (p : Port) : Nat → BitVec 8 → BitVec 8
  | 0, s => s
  | n + 1, s => if p.holdsSeq s then p.freeSeq n (s + 1) else s

/-- The lane whose FIFO the arbiter picks from: the first in precedence with a message, passed over for the next waiting lane
after it, counting round, when its burst run has reached the limit (R164). -/
def Port.pickLane (p : Port) (c : PortCfg) : Option (Fin 4) :=
  let waiting := fun l => decide (p.fifos.get l ≠ [])
  match c.precedence.find? waiting with
  | none => none
  | some l =>
    let spent := match p.burst with
      | some (b, n) => decide (b = l) && decide (c.burstLimit ≤ n)
      | none => false
    if spent then
      let order := (c.precedence.dropWhile (fun x => decide (x ≠ l))).drop 1 ++
        c.precedence.takeWhile (fun x => decide (x ≠ l))
      match order.find? waiting with
      | some l' => some l'
      | none => some l
    else some l

/-- The burst run after a message of lane `l` is picked (R164). -/
def Port.burstAfter (p : Port) (l : Fin 4) : Option (Fin 4 × Nat) :=
  match p.burst with
  | some (b, n) => if b = l then some (l, min 4 (n + 1)) else some (l, 1)
  | none => some (l, 1)

/-- The message the arbiter picks, and the port without it (R164). -/
def Port.pick (p : Port) (c : PortCfg) : Option (CueMsg × Option Owner × Port) :=
  match p.state with
  | .down => none
  | .faulted =>
    match p.priority with
    | [] => none
    | m :: rest => some (m, none, { p with priority := rest })
  | .inService =>
    match p.priority with
    | m :: rest => some (m, none, { p with priority := rest })
    | [] =>
      match p.pickLane c with
      | none => none
      | some l =>
        match p.fifos.get l with
        | [] => none
        | q :: rest => some (q.msg, some q.owner, { p with fifos := p.fifos.set l rest, burst := p.burstAfter l })

/-- One run of the arbiter: messages transmitted while the window has room and one is eligible (R164, R165). The first argument
bounds the run by the room a window can have. -/
def World.arbiterRun (e : Env) (p : Fin 8) : Nat → World → World
  | 0, w => w
  | n + 1, w =>
    let r := w.ports.get p
    if Config.portQueueSize ≤ r.window.length then w
    else
      match r.pick (e.cfg.ports.get p) with
      | none => w
      | some (msg, owner, r') =>
        let seq := r'.freeSeq Config.portQueueSize r'.nextSeq
        let r'' := { r' with window := r'.window ++ [{ seq, msg, owner, sent := e.now }], nextSeq := seq + 1 }
        World.arbiterRun e p n ((w.setPort p r'').sendCue p (msg.frame seq))

/-- A run of a port's arbiter (R164). -/
def World.arbiter (e : Env) (w : World) (p : Fin 8) : World := World.arbiterRun e p Config.portQueueSize w

/-! ### Taking messages (R162, R163) -/

/-- A port's answer to a submission (R162). -/
inductive Submitted where
  | taken
  | portBusy
  | portFault
deriving DecidableEq, Repr

/-- A lane submission reaches a port (R162). -/
def World.submit (e : Env) (w : World) (p : Fin 8) (msg : CueMsg) (owner : Owner) : World × Submitted :=
  let r := w.ports.get p
  if r.state ≠ .inService then (w, .portFault)
  else if Config.portQueueSize ≤ (r.fifos.get owner.lane).length then (w, .portBusy)
  else
    let r' := { r with fifos := r.fifos.modify owner.lane (fun q => q ++ [{ msg, owner }]) }
    (World.arbiter e (w.setPort p r') p, .taken)

/-- A SAFE reaches a port: it joins the priority slot, or is discarded (R163). -/
def World.submitSafe (e : Env) (w : World) (t : Target) : World :=
  let r := w.ports.get t.port
  if r.state = .inService ∧ r.priority.length < Config.prioritySlotSize then
    World.arbiter e (w.setPort t.port { r with priority := r.priority ++ [.safe t.channel] }) t.port
  else w

/-! ### State changes (R161, R163, R169, R174, R175) -/

/-- The messages waiting in a port's lane FIFOs, lane by lane in precedence order, oldest first (R169). -/
def Port.waitingMessages (p : Port) (c : PortCfg) : List Queued := c.precedence.flatMap (fun l => p.fifos.get l)

/-- A port's record at entry to FAULTED (R169). -/
def Port.fault (now : Fc) (p : Port) : Port :=
  { p with state := .faulted, failures := 0, probeAcks := 0, probeStart := some now, fifos := Tbl.fill 4 [], burst := none,
           priority := p.priority.filter (fun m => decide (m = .probe)) }

/-- A port's record at entry to IN_SERVICE from FAULTED (R169, R175). -/
def Port.recover (p : Port) : Port :=
  { p with state := .inService, failures := 0, probeAcks := 0, probeStart := none,
           priority := p.priority.filter (fun m => decide (m ≠ .probe)) }

/-- A port's record at entry to DOWN (R174). -/
def Port.disable (p : Port) : Port :=
  { p with state := .down, fifos := Tbl.fill 4 [], priority := [], window := [], received := [], failures := 0,
           probeAcks := 0, probeStart := none, burst := none }

/-- A port's record as a DOWN port is enabled (R174). -/
def Port.enable (p : Port) : Port :=
  { p with state := .inService, failures := 0, probeAcks := 0, probeStart := none }

/-- A port's record after warm reset (R160). -/
def Port.warm (p : Port) : Port :=
  { Port.reset with state := (if p.state = .down then .down else .inService), nextSeq := p.nextSeq }

/-! ### Outcomes (R166 to R168) -/

/-- The outcome of a message that was taken (R168, and R169 and R174 for the failures). -/
inductive MsgOutcome where
  | ack
  | nakNotFound
  | nakRefused
  | nakBusy
  | timeout
  | portFault
deriving DecidableEq, Repr

/-- The outcome of a NAK by its reason byte, any other value being taken as REFUSED (R166, R212). -/
def nakOutcome (reason : Byte) : MsgOutcome :=
  if reason = 1#8 then .nakNotFound else if reason = 3#8 then .nakBusy else .nakRefused

/-- How a completion counts for the health of a port in IN_SERVICE, or in FAULTED for a PROBE (R168, R169). -/
def Port.count (probe : Bool) (o : MsgOutcome) (p : Port) : Port :=
  match p.state, o with
  | .inService, .timeout => { p with failures := min 15 (p.failures + 1) }
  | .inService, .portFault => p
  | .inService, _ => { p with failures := 0 }
  | .faulted, .timeout => if probe then { p with probeAcks := 0 } else p
  | .faulted, .portFault => p
  | .faulted, _ => if probe then { p with probeAcks := min 15 (p.probeAcks + 1) } else p
  | .down, _ => p

end Sys2Proof.Machine
end

