-- ==== Sys2Proof/Machine/Router.lean ====
section
/-! DEFINITION. The Device Router: sides, resolution with the failover switch and its re-pointing, LOADs, claims, releases and
hand-over (R141 to R154), with the load list entries that go with them (R99). -/
namespace Sys2Proof.Machine

/-! ### LOADs (R99, R152) -/

/-- A lane's load list without the entry of an element (R99). -/
def LaneRec.dropLoad (ref : ElemRef) (r : LaneRec) : LaneRec :=
  { r with loadList := r.loadList.filter (fun x => decide (x.ref ≠ ref)) }

/-- An element whose LOAD failed (R21, R99). -/
def Element.loadFail (f : LoadFailure) (el : Element) : Element :=
  { el with load := .loadFailed, loadFailure := some f }

/-- A LOAD for a CLIP submitted on a port and channel: its load target is written, and it becomes LOADING with a load list entry
in place of any it had, or LOAD_FAILED with the submission's reason (R21, R98, R99). -/
def World.sendLoadTo (e : Env) (w : World) (l : Fin 4) (it : Item) (el : Element) (d : Fin 64) (t : Target) : World :=
  match el.content with
  | .clip _ clipId =>
    let ref := it.refOf el
    let n := w.loads
    let (w1, answer) := World.submit e { w with loads := n + 1 } t.port (.load t.channel clipId)
      { lane := l, ref, pass := el.pass, number := n }
    let w2 := w1.modLane l (LaneRec.dropLoad ref)
    match answer with
    | .taken =>
      (w2.modElem ref (fun x => { x with load := .loading, loadTarget := some t, loadFailure := none })).modLane l
        (fun r => { r with loadList := r.loadList ++ [{ ref, key := it.key, device := d, target := t, number := n }] })
    | .portBusy => w2.modElem ref (fun x => Element.loadFail .portBusy { x with loadTarget := some t })
    | .portFault => w2.modElem ref (fun x => Element.loadFail .portFault { x with loadTarget := some t })
  | _ => w

/-! ### Sides, the switch and re-pointing (R143 to R145) -/

/-- The port and channel of a side, where the entry has that side. -/
def MapEntry.sideTarget (m : MapEntry) : Side → Option Target
  | .main => some m.main
  | .backup => m.backup

/-- The port and channel of the active side (R141). -/
def MapEntry.target (m : MapEntry) : Target :=
  match m.active with
  | .main => m.main
  | .backup => m.backup.getD m.main

/-- Whether a port is in a state. -/
def World.portIs (w : World) (p : Fin 8) (s : PortState) : Bool := decide ((w.ports.get p).state = s)

/-- Whether a clip has been loaded and not yet rolled (R145). -/
def Element.isLoadedUnrolled (d : Fin 64) (el : Element) : Bool :=
  el.isClipOn d && (decide (el.load = .loading) || decide (el.load = .loaded)) &&
    (decide (el.fire = .waiting) || decide (el.fire = .queued))

/-- The keys of a lane's NEXT and ON_AIR items. -/
def LaneRec.heldKeys (r : LaneRec) : List Nat := r.next.toList ++ r.onAir.toList

/-- One item's loaded clips on an entry re-loaded on the active side, in the order of its element list (R145; log 17). -/
def World.repointItem (e : Env) (d : Fin 64) (l : Fin 4) (w : World) (k : Nat) : World :=
  match w.item? k with
  | none => w
  | some it =>
    (it.elements.filter (Element.isLoadedUnrolled d)).foldl
      (fun w el => World.sendLoadTo e w l it el d (w.map.get d).target) w

/-- Re-pointing after a change of active side: lanes 0 to 3, and in each its NEXT item before its ON_AIR item (R145; log 17). -/
def World.repoint (e : Env) (w : World) (d : Fin 64) : World :=
  (places 4).foldl (fun w l => (w.lane l).heldKeys.foldl (World.repointItem e d l) w) w

/-- Whether the switch of R144 can be made. -/
def World.canSwitch (w : World) (d : Fin 64) : Bool :=
  let m := w.map.get d
  m.valid && decide (m.active = .main) && m.autoFailover && w.portIs m.main.port .faulted &&
    (match m.backup with
     | some b => w.portIs b.port .inService
     | none => false)

/-- A trial of the switch: the active side becomes BACKUP and re-pointing follows, or nothing changes (R144). -/
def World.trySwitch (e : Env) (w : World) (d : Fin 64) : World :=
  if w.canSwitch d then World.repoint e (w.modEntry d (fun m => { m with active := .backup })) d else w

/-- The outcomes of a resolution (R143). -/
inductive Resolved where
  | unmapped
  | portFault
  | target (t : Target) (cls : DevClass)
deriving DecidableEq, Repr

/-- The state of the entry's active side, judged without a switch. -/
def World.activeSide (w : World) (d : Fin 64) : Resolved :=
  let m := w.map.get d
  if !m.valid then .unmapped
  else if w.portIs m.target.port .inService then .target m.target m.cls
  else .portFault

/-- A resolution: the switch is tried first where the active side's port is FAULTED (R143). -/
def World.resolve (e : Env) (w : World) (d : Fin 64) : World × Resolved :=
  let m := w.map.get d
  if m.valid && w.portIs m.target.port .faulted then
    let w' := World.trySwitch e w d
    (w', w'.activeSide d)
  else (w, w.activeSide d)

/-- A LOAD sent through the router at a time other than a firing or an arming: a resolution that finds no port fails the LOAD at
submission (R99, R103, R152; log 14). -/
def World.sendLoad (e : Env) (w : World) (l : Fin 4) (it : Item) (el : Element) (d : Fin 64) : World :=
  let (w1, r) := World.resolve e w d
  match r with
  | .target t _ => World.sendLoadTo e w1 l it el d t
  | .portFault => (w1.modLane l (LaneRec.dropLoad (it.refOf el))).modElem (it.refOf el) (Element.loadFail .portFault)
  | .unmapped => w1

/-! ### Claims (R146 to R148) -/

/-- The answers to a claim request (R147). -/
inductive ClaimAnswer where
  | granted
  | deferred
  | conflict
deriving DecidableEq, Repr

/-- Whether an item on air has used the channel of an entry (R148). -/
def Item.hasUsed (it : Item) (d : Fin 64) : Bool :=
  it.elements.any (fun el => el.isClipOn d &&
    (decide (el.fire = .sent) || decide (el.fire = .done) || decide (el.fire = .ended) ||
     decide (el.load = .loading) || decide (el.load = .loaded)))

/-- Whether a LOAD of the lane's item `k` on an entry is deferred behind the lane's ON_AIR item: `k` is the lane's NEXT, the
lane holds the entry for its ON_AIR item too, and that item has used the channel (R148). -/
def World.isDeferred (w : World) (l : Fin 4) (k : Nat) (d : Fin 64) : Bool :=
  decide ((w.lane l).next = some k) &&
    (match w.onAirItem? l, (w.map.get d).claim with
     | some it, some c => decide (c.lane = l) && c.users.contains it.key && decide (it.key ≠ k) && it.hasUsed d
     | _, _ => false)

/-- Every CLIP element of the item on the entry takes load state CONFLICT (R147). -/
def World.setConflict (w : World) (k : Nat) (d : Fin 64) : World :=
  w.modElements k (fun el => if el.isClipOn d then { el with load := .conflict, loadFailure := none } else el)

/-- A lane asks for a claim on behalf of its item `k` (R147). A request of the NEXT item that is a user already is answered DEFERRED
where the ON_AIR item has used the channel, as R148 says, and not GRANTED (log 41). -/
def World.requestClaim (w : World) (l : Fin 4) (k : Nat) (d : Fin 64) : World × ClaimAnswer :=
  let m := w.map.get d
  match m.claim with
  | none => (w.modEntry d (fun m => { m with claim := some { lane := l, users := [k] } }), .granted)
  | some c =>
    if c.lane = l then
      let w1 := if c.users.contains k then w
        else w.modEntry d (fun m => { m with claim := some { c with users := c.users ++ [k] } })
      (w1, if w1.isDeferred l k d then .deferred else .granted)
    else
      let w1 := if m.waiters.contains l then w else w.modEntry d (fun m => { m with waiters := m.waiters ++ [l] })
      (w1.setConflict k d, .conflict)

/-- Whether a lane holds an entry's claim. -/
def World.holdsClaim (w : World) (l : Fin 4) (d : Fin 64) : Bool :=
  match (w.map.get d).claim with
  | some c => decide (c.lane = l)
  | none => false

/-- Whether a lane holds an entry's claim for an item. -/
def World.isUser (w : World) (l : Fin 4) (k : Nat) (d : Fin 64) : Bool :=
  match (w.map.get d).claim with
  | some c => decide (c.lane = l) && c.users.contains k
  | none => false

/-- The earliest CLIP of an item on an entry, among those in fire state WAITING (R98): one that arming has made FAILED does not count as
the earliest (R100; log 43). -/
def Item.earliestClip (it : Item) (d : Fin 64) : Option Element :=
  (byOffset (it.elements.filter (fun el => el.isClipOn d && decide (el.fire = .waiting)))).head?

/-- A LOAD of the NEXT item on an entry deferred until the ON_AIR item leaves air (R98, R148). -/
def LaneRec.defer (d : Fin 64) (r : LaneRec) : LaneRec :=
  if r.deferred.contains d then r else { r with deferred := r.deferred ++ [d] }

/-- No LOAD of the NEXT item is deferred on the entry any longer. -/
def LaneRec.undefer (d : Fin 64) (r : LaneRec) : LaneRec :=
  { r with deferred := r.deferred.filter (fun x => decide (x ≠ d)) }

/-- The LOAD of an item that holds the claim sent, or deferred, for its earliest CLIP on the entry, where that CLIP is UNLOADED; once
sent it is deferred no longer (R98, R100, R103, R148). -/
def World.loadEarliest (e : Env) (w : World) (l : Fin 4) (k : Nat) (d : Fin 64) : World :=
  match w.item? k with
  | none => w
  | some it =>
    match it.earliestClip d with
    | none => w
    | some el =>
      if w.isUser l k d && decide (el.load = .unloaded) then
        (if w.isDeferred l k d then w.modLane l (LaneRec.defer d)
         else World.sendLoad e (w.modLane l (LaneRec.undefer d)) l it el d)
      else w

/-! ### Release and hand-over (R149, R150, R103) -/

/-- Whether a lane's NEXT or ON_AIR item has a CLIP element naming the entry. -/
def World.needs (w : World) (l : Fin 4) (d : Fin 64) : Bool :=
  (w.lane l).heldKeys.any (fun k => match w.item? k with
    | some it => it.hasClipOn d
    | none => false)

/-- The clips of an item that a handed-over claim serves, the earliest by offset first: those in CONFLICT, fired or not, and those
UNLOADED that have not fired. Which of the ON_AIR item's clips has its LOAD sent is left open by R150 and R103: the model's choice
(log 57). -/
def Item.claimable (it : Item) (d : Fin 64) : List Element :=
  byOffset (it.elements.filter (fun el => el.isClipOn d &&
    (decide (el.load = .conflict) || (decide (el.load = .unloaded) &&
      (decide (el.fire = .waiting) || decide (el.fire = .queued))))))

/-- The clips of an item on the entry leave CONFLICT (R103). -/
def World.leaveConflict (w : World) (d : Fin 64) (k : Nat) : World :=
  w.modElements k (fun el => if el.isClipOn d && decide (el.load = .conflict) then el.unload else el)

/-- A lane becomes holder of a free entry, and acts on the claim at once (R150, R103): the LOAD of its ON_AIR item is sent when
that item is a user, that of its NEXT item waiting deferred (R148), and otherwise that of its NEXT item. -/
def World.giveClaim (e : Env) (w : World) (l : Fin 4) (d : Fin 64) : World :=
  let users := (w.lane l).heldKeys.filter (fun k => match w.item? k with
    | some it => it.hasClipOn d
    | none => false)
  let first := (((w.lane l).onAir.toList.filter users.contains) ++ users).head?
  let w1 := w.modEntry d (fun m =>
    { m with claim := some { lane := l, users }, waiters := m.waiters.filter (fun x => decide (x ≠ l)) })
  let both := match (w.lane l).onAir, (w.lane l).next with
    | some a, some b => users.contains a && users.contains b
    | _, _ => false
  let w2 := users.foldl (fun w k => w.leaveConflict d k) (if both then w1.modLane l (LaneRec.defer d) else w1)
  match first.bind w.item? with
  | none => w2
  | some it =>
    match (it.claimable d).head? with
    | none => w2
    | some el => World.sendLoad e w2 l it el d

/-- The hand-over of an entry whose claim has no users left (R150). -/
def World.handOver (e : Env) (w : World) (d : Fin 64) : World :=
  let m := w.map.get d
  let rest := m.waiters.dropWhile (fun l => !w.needs l d)
  let w1 := w.modEntry d (fun m => { m with claim := none, waiters := rest })
  match rest with
  | [] => w1
  | l :: _ => World.giveClaim e w1 l d

/-- An item stops being a user of one entry's claim (R149). -/
def World.releaseUse (e : Env) (l : Fin 4) (k : Nat) (w : World) (d : Fin 64) : World :=
  match (w.map.get d).claim with
  | none => w
  | some c =>
    if c.lane = l ∧ c.users.contains k then
      let users := c.users.filter (fun x => decide (x ≠ k))
      if users = [] then World.handOver e w d
      else w.modEntry d (fun m => { m with claim := some { c with users } })
    else w

/-- A lane leaves the waiter list of every entry that neither of its two items needs, as they stand after an event that released an
item (R149; log 28). -/
def World.cleanWaiters (w : World) (l : Fin 4) : World :=
  (places 64).foldl (fun w d =>
    if (w.map.get d).waiters.contains l && !w.needs l d then
      w.modEntry d (fun m => { m with waiters := m.waiters.filter (fun x => decide (x ≠ l)) })
    else w) w

/-- An item stops being a user of every claim it holds, entry by entry from 0 to 63, each with its hand-over (R149; log 38). -/
def World.releaseItem (e : Env) (w : World) (l : Fin 4) (k : Nat) : World :=
  (places 64).foldl (World.releaseUse e l k) w

/-- The LOADs of the lane's NEXT item that were deferred behind the item that has left air, entry by entry from 0 to 63; one that the
item then on air holds back stays deferred (R103, R148; log 38). -/
def World.sendDeferred (e : Env) (w : World) (l : Fin 4) : World :=
  match (w.lane l).next with
  | none => w
  | some k =>
    (places 64).foldl (fun v d => if (w.lane l).deferred.contains d then World.loadEarliest e v l k d else v)
      (w.modLane l (fun r => { r with deferred := [] }))

end Sys2Proof.Machine
end

