-- ==== Sys2Proof/Machine/Firing.lean ====
section
/-! DEFINITION. Element firing: the fire queue, admission and lateness, firing by kind, loads that firings wait for, cycles, and
edits of the item on air (R123 to R139). -/
namespace Sys2Proof.Machine

/-! ### Due frames and the order of the queue (R123, R124) -/

/-- The due frame of an element of an item on air: Fs + offset, and for a re-admitted element what R136 adds (R124). -/
def Item.due (it : Item) (el : Element) : Fc :=
  (match it.start with
   | some st => st.fs
   | none => 0) + BitVec.ofNat 32 el.offset + el.shift

/-- Whether a due frame and index stand before others in the order of the fire queue (R123). -/
def firesBefore (dueA : Fc) (indexA : Nat) (dueB : Fc) (indexB : Nat) : Bool :=
  fcBefore dueA dueB || (decide (dueA = dueB) && decide (indexA < indexB))

/-- The index in its item of an entry's element. -/
def Item.entryIndex (it : Item) (en : FireEntry) : Nat := (it.index? en.ref.elem).getD 0

/-- An entry put into a fire queue at its place in the order (R123). -/
def placeEntry (it : Item) (en : FireEntry) : List FireEntry → List FireEntry
  | [] => [en]
  | x :: rest =>
    if firesBefore en.due (it.entryIndex en) x.due (it.entryIndex x) then en :: x :: rest
    else x :: placeEntry it en rest

/-- The earlier of a candidate and what the rest of the list has found. -/
def earlierOf (it : Item) (cand : Nat × Element) : Option (Nat × Element) → Option (Nat × Element)
  | none => some cand
  | some b => if firesBefore (it.due b.2) b.1 (it.due cand.2) cand.1 then some b else some cand

/-- The WAITING element with the earliest due frame, ties to the lowest index, with its index (R124); the first argument is the
index of the head of the list. -/
def earliestWaiting (it : Item) : Nat → List Element → Option (Nat × Element)
  | _, [] => none
  | i, el :: rest =>
    if el.fire = .waiting then earlierOf it (i, el) (earliestWaiting it (i + 1) rest)
    else earliestWaiting it (i + 1) rest

/-- The standby point of a CUE due at a frame (R123). -/
def Element.standbyPoint (el : Element) (due : Fc) : Option Fc :=
  match el.content with
  | .cue _ lead _ => some (due - BitVec.ofNat 32 lead)
  | _ => none

/-- The entry of an element of a lane's ON_AIR item (R123, R126). -/
def World.entryOf (w : World) (l : Fin 4) (it : Item) (el : Element) : FireEntry :=
  { ref := it.refOf el, due := it.due el, standbyPoint := el.standbyPoint (it.due el),
    asked := (w.lane l).cueList.contains (it.refOf el), waitLoad := false }

/-- A lane's fire queue changed by `f`. -/
def World.modQueue (w : World) (l : Fin 4) (f : List FireEntry → List FireEntry) : World :=
  w.modLane l (fun r => { r with fireQueue := f r.fireQueue })

/-- A lane's fire queue without the entry of an element. -/
def World.dropEntry (w : World) (l : Fin 4) (ref : ElemRef) : World :=
  w.modQueue l (fun q => q.filter (fun x => decide (x.ref ≠ ref)))

/-- A lane's cue list with a cue. -/
def LaneRec.addCue (ref : ElemRef) (r : LaneRec) : LaneRec :=
  if r.cueList.contains ref then r else { r with cueList := r.cueList ++ [ref] }

/-- A lane's cue list without a cue. -/
def LaneRec.dropCue (ref : ElemRef) (r : LaneRec) : LaneRec :=
  { r with cueList := r.cueList.filter (fun x => decide (x ≠ ref)) }

/-! ### Firing by kind (R128, R129, R131) -/

/-- What a submission makes of the element that was fired (R128). -/
def Submitted.apply (s : Submitted) (el : Element) : Element :=
  match s with
  | .taken => { el with fire := .sent, failReason := none }
  | .portBusy => el.fail .portBusy
  | .portFault => el.fail .portFault

/-- A message of a fired element submitted on a port (R128). -/
def World.submitFired (e : Env) (w : World) (l : Fin 4) (ref : ElemRef) (el : Element) (t : Target) (msg : CueMsg) : World :=
  let (w1, s) := World.submit e w t.port msg { lane := l, ref, pass := el.pass, number := 0 }
  w1.modElem ref s.apply

/-- ROLL of a LOADED clip on its load target; taken, it names the element in the record of last rolls (R129, R153). A LOADED clip that
a SETEL has left without a load target becomes FAILED with PORT_FAULT: the model's choice (log 56). -/
def World.rollClip (e : Env) (w : World) (l : Fin 4) (ref : ElemRef) (el : Element) : World :=
  match el.loadTarget with
  | none => w.modElem ref (Element.fail .portFault)
  | some t =>
    let owner : Owner := { lane := l, ref, pass := el.pass, number := 0 }
    let (w1, s) := World.submit e w t.port (.roll t.channel) owner
    let w2 := w1.modElem ref s.apply
    if s = .taken then { w2 with rolls := w2.rolls.set t.place (some owner) } else w2

/-- The NEXT item's loads on a PLAYOUT entry displaced by a LOAD that the ON_AIR item has sent: their load list entries go and they
return to UNLOADED, now deferred (R148). -/
def World.displaceNext (w : World) (l : Fin 4) (d : Fin 64) : World :=
  match w.nextItem? l with
  | none => w
  | some it =>
    if (w.map.get d).cls = .graphics then w
    else
      let held := it.elements.filter (fun el => el.isClipOn d && (decide (el.load = .loading) || decide (el.load = .loaded)))
      if held = [] then w
      else held.foldl (fun w el => (w.modLane l (LaneRec.dropLoad (it.refOf el))).modElem (it.refOf el) Element.unload)
        (w.modLane l (LaneRec.defer d))

/-- The LOAD of a clip of the ON_AIR item sent at its firing on the side resolved for it; a LOAD that fails at submission makes
the element FAILED with that reason, and otherwise NEXT's load is displaced and the entry waits for load (R129, R148). -/
def World.loadAtFiring (e : Env) (w : World) (l : Fin 4) (it : Item) (el : Element) (d : Fin 64) (t : Target) :
    World × Bool :=
  let ref := it.refOf el
  let w1 := World.sendLoadTo e w l it el d t
  match w1.store.elem? ref with
  | none => (w1, false)
  | some (_, el1) =>
    match el1.load, el1.loadFailure with
    | .loading, _ => (w1.displaceNext l d, true)
    | _, some f => (w1.modElem ref (Element.fail f.reason), false)
    | _, none => (w1.modElem ref (Element.fail .portFault), false)

/-- A CLIP fires by its load state; the second component says that its entry stays in the queue, waiting for load (R129). -/
def World.fireClip (e : Env) (w : World) (l : Fin 4) (it : Item) (el : Element) (d : Fin 64) : World × Bool :=
  let ref := it.refOf el
  match el.load with
  | .loaded => (World.rollClip e w l ref el, false)
  | .loading => (w, true)
  | .conflict => (w.modElem ref (Element.fail .nakBusy), false)
  | .loadFailed => (w.modElem ref (Element.fail ((el.loadFailure.map LoadFailure.reason).getD .portFault)), false)
  | .unloaded =>
    let (w1, r) := World.resolve e w d
    match r with
    | .unmapped => (w1.modElem ref (Element.fail .unmapped), false)
    | .portFault => (w1.modElem ref (Element.fail .portFault), false)
    | .target t .graphics => World.loadAtFiring e w1 l it el d t
    | .target t .playout =>
      let (w2, answer) := w1.requestClaim l it.key d
      match answer with
      | .conflict => (w2.modElem ref (Element.fail .nakBusy), false)
      | _ => World.loadAtFiring e w2 l it el d t

/-- A CLIP_STOP, GFX_IN or GFX_OUT fires: resolved, and submitted (R128). -/
def World.fireMessage (e : Env) (w : World) (l : Fin 4) (ref : ElemRef) (el : Element) (d : Fin 64)
    (msg : Fin 8 → CueMsg) (stops : Bool) : World :=
  let (w1, r) := World.resolve e w d
  match r with
  | .unmapped => w1.modElem ref (Element.fail .unmapped)
  | .portFault => w1.modElem ref (Element.fail .portFault)
  | .target t cls =>
    let heldByOther := match (w1.map.get d).claim with
      | some c => decide (c.lane ≠ l)
      | none => false
    if stops && decide (cls = .playout) && heldByOther then w1.modElem ref (Element.fail .nakBusy)
    else World.submitFired e w1 l ref el t (msg t.channel)

/-- A CUE fires its GO: shown it is DONE, failed it is FAILED with the Station Unit's reason; it leaves the cue list (R131,
R185). -/
def World.fireCue (e : Env) (w : World) (l : Fin 4) (it : Item) (el : Element) (st : Fin 6) : World :=
  let ref := it.refOf el
  let (w1, failed) := World.giveGo e w l st it.key ref it.label
  let w2 := w1.modLane l (LaneRec.dropCue ref)
  match failed with
  | none => w2.modElem ref (fun x => { x with fire := .done, failReason := none })
  | some reason => w2.modElem ref (Element.fail reason)

/-- An element fired after its due frame is has its late flag set (R125). -/
def World.markLate (e : Env) (w : World) (ref : ElemRef) (due : Fc) : World :=
  if fcBefore due e.now then w.modElem ref (fun x => { x with late := true }) else w

/-- An element of the ON_AIR item fires at a due frame; the second component says that its entry stays in the queue, waiting
for load. An element fired after its due frame has its late flag set (R21, R125). -/
def World.fireElement (e : Env) (w : World) (l : Fin 4) (ref : ElemRef) (due : Fc) : World × Bool :=
  match w.store.elem? ref with
  | none => (w, false)
  | some (it, el) =>
    let w1 := w.markLate e ref due
    match el.content with
    | .clip d _ => World.fireClip e w1 l it el d
    | .clipStop d => (World.fireMessage e w1 l ref el d .stopClip true, false)
    | .gfxIn d tmpl dat => (World.fireMessage e w1 l ref el d (fun ch => .gfxIn ch tmpl dat) false, false)
    | .gfxOut d tmpl => (World.fireMessage e w1 l ref el d (fun ch => .gfxOut ch tmpl) false, false)
    | .cue st _ _ => (World.fireCue e w1 l it el st, false)

/-! ### Standbys of the ON_AIR item (R131) -/

/-- The standby of a queued CUE asked of the Station Unit: asked it joins the cue list; failed with WRONG_LANE it becomes FAILED
and leaves the queue (R131, R181). -/
def World.askQueued (e : Env) (w : World) (l : Fin 4) (it : Item) (el : Element) (st : Fin 6) (due : Fc) : World :=
  let ref := it.refOf el
  let (w1, answer) := World.askStandby e w l st it.key ref it.label (fcDist e.now due)
  match answer with
  | .wrongLane => (w1.modElem ref (Element.fail .wrongLane)).dropEntry l ref
  | _ => (w1.modLane l (LaneRec.addCue ref)).modQueue l (fun q =>
      q.map (fun x => if x.ref = ref then { x with asked := true } else x))

/-- Whether an entry's standby is to be asked: it is a CUE's, its standby point is at or before Fnow and it has not been asked. -/
def FireEntry.toAsk (now : Fc) (en : FireEntry) : Bool :=
  match en.standbyPoint with
  | some p => fcAtOrBefore p now && !en.asked
  | none => false

/-- The standby of an entry asked where it is to be asked. -/
def World.askEntry (e : Env) (w : World) (l : Fin 4) (en : FireEntry) : World :=
  if en.toAsk e.now then
    match w.store.elem? en.ref with
    | some (it, el) =>
      match el.content with
      | .cue st _ _ => World.askQueued e w l it el st en.due
      | _ => w
    | none => w
  else w

/-- The distance of a cue already asked handed to the Station Unit (R131). -/
def World.handEntry (e : Env) (w : World) (en : FireEntry) : World :=
  if en.asked then
    match w.store.elem? en.ref with
    | some (_, el) =>
      match el.content with
      | .cue st _ _ => World.handDistance e w st en.ref (fcDist e.now en.due)
      | _ => w
    | none => w
  else w

/-! ### Admission and the lateness test (R124, R125) -/

/-- Where an admitted element would find an entry: the queue it joins, and the entry displaced for it (R124). -/
def roomFor (it : Item) (q : List FireEntry) (due : Fc) (index : Nat) : Option (List FireEntry × Option FireEntry) :=
  if q.length < Config.fireQueueSize then some (q, none)
  else
    match q.getLast? with
    | none => none
    | some last =>
      if firesBefore due index last.due (it.entryIndex last) && !last.waitLoad then some (q.dropLast, some last) else none

/-- The entry of an element fires: it leaves the queue, but for a CLIP that waits for load, whose entry stays and is marked so;
the second component says that it stays (R125, R127, R130). -/
def World.fireEntry (e : Env) (w : World) (l : Fin 4) (ref : ElemRef) (due : Fc) : World × Bool :=
  let (w1, stay) := World.fireElement e w l ref due
  if stay then (w1.modQueue l (fun q => q.map (fun x => if x.ref = ref then { x with waitLoad := true } else x)), true)
  else (w1.dropEntry l ref, false)

/-- An admitted element takes its entry; one not yet past its due frame has its standby asked at once where its standby point has
passed (R125, R126, R131). -/
def World.enqueue (e : Env) (w : World) (l : Fin 4) (it : Item) (el : Element) : World :=
  let en := w.entryOf l it el
  let w1 := (w.modElem (it.refOf el) (fun x => { x with fire := .queued })).modQueue l (placeEntry it en)
  if fcDist (it.due el) e.now ≤ 0 then World.askEntry e w1 l en else w1

/-- The element an admission displaced stands WAITING again (R124). -/
def World.putBack (w : World) : Option FireEntry → World
  | some x => w.modElem x.ref (fun y => { y with fire := .waiting })
  | none => w

/-- Whether an element due at a frame comes later than the lane's late tolerance (R125). -/
def World.tooLate (e : Env) (l : Fin 4) (due : Fc) : Bool :=
  decide (((e.cfg.lanes.get l).lateTolerance : Int) < fcDist due e.now)

/-- An element admitted too late is SKIPPED with reason LATE (R125). -/
def World.skip (w : World) (ref : ElemRef) : World :=
  w.modElem ref (fun x => { x with fire := .skipped, failReason := some .late })

/-- An admitted element takes an entry in the queue `q`, in place of the entry `displaced` if any; due by now it fires at once, or,
within the firing of a frame arrival (`arrival`), stands in the queue for that firing to reach in order (R124, R125, R127; log
10). The second component says that its entry has left the queue again. -/
def World.takeEntry (e : Env) (w : World) (l : Fin 4) (arrival : Bool) (it : Item) (el : Element) (q : List FireEntry)
    (displaced : Option FireEntry) : World × Bool :=
  let ref := it.refOf el
  let w1 := World.enqueue e ((w.modQueue l (fun _ => q)).putBack displaced) l it el
  if !(w1.lane l).fireQueue.any (fun x => decide (x.ref = ref)) then (w1, true)
  else if arrival || decide (fcDist (it.due el) e.now < 0) then (w1, false)
  else
    let r := World.fireEntry e w1 l ref (it.due el)
    (r.1, !r.2)

/-- One admission: the earliest WAITING element takes an entry where there is room for it. One that is too late is SKIPPED, takes no
entry, and a further admission is made in its place; one that leaves the queue again at once makes an admission by its
departure (R124, R125). The number bounds the further admissions, each of which uses up a WAITING element. -/
def World.admitOne (e : Env) (l : Fin 4) (arrival : Bool) : Nat → World → World
  | 0, w => w
  | n + 1, w =>
    match w.onAirItem? l with
    | none => w
    | some it =>
      match earliestWaiting it 0 it.elements with
      | none => w
      | some (index, el) =>
        match roomFor it (w.lane l).fireQueue (it.due el) index with
        | none => w
        | some (q, displaced) =>
          if World.tooLate e l (it.due el) then World.admitOne e l arrival n (w.skip (it.refOf el))
          else
            let r := World.takeEntry e w l arrival it el q displaced
            if r.2 then World.admitOne e l arrival n r.1 else r.1

/-- Rounds enough for the admissions of one event: 32 elements and a displaced one, with room to spare. -/
def admitRounds : Nat := 80

/-- The admission that a departure makes, or an edit of the item on air (R124). -/
def World.admitNext (e : Env) (w : World) (l : Fin 4) : World := World.admitOne e l false admitRounds w

/-- An element taken out of the queue treated as admitted: it fires late, or is SKIPPED and a further admission is made in its
place (R125, R137). -/
def World.treatAdmitted (e : Env) (w : World) (l : Fin 4) (it : Item) (el : Element) : World :=
  if World.tooLate e l (it.due el) then World.admitNext e (w.skip (it.refOf el)) l
  else
    let r := World.takeEntry e w l false it el (w.lane l).fireQueue none
    if r.2 then World.admitNext e r.1 l else r.1

/-- Admissions until the queue is full or no element that `among` finds is WAITING (R126, R136). A queue that is full already admits
nothing here and loses no entry (R124; log 52). -/
def World.fillQueue (e : Env) (l : Fin 4) (among : Item → List Element) : Nat → World → World
  | 0, w => w
  | n + 1, w =>
    let left := match w.onAirItem? l with
      | some it => (among it).any (fun el => decide (el.fire = .waiting))
      | none => false
    if left && decide ((w.lane l).fireQueue.length < Config.fireQueueSize) then
      World.fillQueue e l among n (World.admitNext e w l)
    else w

/-! ### The firing of a frame arrival (R127) -/

/-- The entries whose due frame is at or before Fnow fire from the head onwards, those waiting for load being passed over, each
departure making an admission (R127). -/
def World.fireDue (e : Env) (l : Fin 4) : Nat → World → World
  | 0, w => w
  | n + 1, w =>
    match (w.lane l).fireQueue.find? (fun x => !x.waitLoad) with
    | none => w
    | some en =>
      if fcAtOrBefore en.due e.now then
        let (w1, stay) := World.fireEntry e w l en.ref en.due
        if stay then World.fireDue e l n w1
        else World.fireDue e l n (World.admitOne e l true admitRounds w1)
      else w

/-- The standby of an entry asked at a frame arrival; an entry that its refusal takes out of the queue makes an admission (R124,
R127, R131). -/
def World.askArrival (e : Env) (l : Fin 4) (w : World) (en : FireEntry) : World :=
  let w1 := World.askEntry e w l en
  if (w1.lane l).fireQueue.length < (w.lane l).fireQueue.length then World.admitOne e l true admitRounds w1 else w1

/-- The standby asking and the firing of one lane at a frame arrival (R127, R131). The new distances of the cues asked before are handed
first, then the new standbys are asked, then the due entries fire; that the hand comes first is the model's choice (log 61). -/
def World.fireArrival (e : Env) (w : World) (l : Fin 4) : World :=
  let queue := (w.lane l).fireQueue
  let w1 := queue.foldl (World.handEntry e) w
  World.fireDue e l admitRounds (queue.foldl (World.askArrival e l) w1)

/-! ### Cycles (R135, R136) -/

/-- The cycle of an item resolved against its list: first and last index, and the period in force (R135). -/
def Item.cycleRange (it : Item) : Option (Nat × Nat × Nat) :=
  match it.cycle with
  | none => none
  | some c =>
    let n := it.elements.length
    if n ≤ c.first then none
    else
      let last := min c.last (n - 1)
      let offsets := ((it.elements.drop c.first).take (last + 1 - c.first)).map (·.offset)
      let span := offsets.foldl max 0 - offsets.foldl min Config.maxDuration
      some (c.first, last, if c.period ≤ span then span + 1 else c.period)

/-- The elements of the cycle range. -/
def Item.cycleElements (it : Item) : List Element :=
  match it.cycleRange with
  | none => []
  | some (first, last, _) => (it.elements.drop first).take (last + 1 - first)

/-- An element re-admitted by the cycle for pass `k`, `shift` frames further on (R136). -/
def Element.readmit (k : BitVec 32) (shift : BitVec 32) (el : Element) : Element :=
  let el1 := { el with fire := .waiting, failReason := none, late := false, pass := k, shift }
  if el.content.isClip then el1.unload else el1

/-- The LOAD of a re-admitted CLIP, sent at once when the lane holds the entry's claim or the entry is GRAPHICS (R136). The item
becomes a user of the claim, and the load of NEXT on the entry is displaced, as at a firing (R147, R148; log 40). -/
def World.loadReadmitted (e : Env) (w : World) (l : Fin 4) (it : Item) (el : Element) : World :=
  match el.content with
  | .clip d _ =>
    let m := w.map.get d
    if !m.valid then w
    else if m.cls = .graphics then World.sendLoad e w l it el d
    else if w.holdsClaim l d then
      let w1 := World.sendLoad e (w.requestClaim l it.key d).1 l it el d
      match w1.store.elem? (it.refOf el) with
      | some (_, el1) => if el1.load = .loading then w1.displaceNext l d else w1
      | none => w1
    else w
  | _ => w

/-- The elements of the cycle range re-admitted for the pass after the present one, and the pass counted (R136). The LOADs of its
CLIPs are submitted in the order of the element list, which R136 leaves open: the model's choice (log 17). -/
def World.readmitRange (e : Env) (w : World) (l : Fin 4) (it : Item) (period : Nat) : World :=
  let range := it.cycleElements
  let k := (w.lane l).passCount + 1
  let w1 := range.foldl (fun w el =>
    ((w.modLane l (LaneRec.dropLoad (it.refOf el))).modLane l (LaneRec.dropCue (it.refOf el))).modElem (it.refOf el)
      (Element.readmit k (k * BitVec.ofNat 32 period))) w
  range.foldl (fun w el => World.loadReadmitted e w l it { el with pass := k })
    (w1.modLane l (fun r => { r with passCount := k }))

/-- Whether an element of the cycle range of a lane's ON_AIR item that was WAITING or QUEUED in `before` has been completed in
`after`, which makes a test of the range due (R136; log 11). -/
def World.completed (before after : World) (l : Fin 4) : Bool :=
  match after.onAirItem? l with
  | none => false
  | some it => it.cycleElements.any (fun el =>
      (decide (el.fire = .done) || decide (el.fire = .failed)) &&
        (match before.store.elem? (it.refOf el) with
         | some (_, old) => decide (old.fire = .waiting) || decide (old.fire = .queued)
         | none => false))

/-- The test of the cycle range of a lane's ON_AIR item, and its re-admission where the test passes; an element that the
admissions complete at once has the range tested again (R136). The number bounds the passes. -/
def World.cycleTests (e : Env) (l : Fin 4) : Nat → World → World
  | 0, w => w
  | n + 1, w =>
    match w.onAirItem? l with
    | none => w
    | some it =>
      match it.cycleRange with
      | none => w
      | some (_, _, period) =>
        if it.cycleElements.any (fun el => decide (el.fire = .waiting) || decide (el.fire = .queued)) then w
        else
          let w1 := World.readmitRange e w l it period
          let w2 := World.fillQueue e l Item.cycleElements admitRounds w1
          if World.completed w1 w2 l then World.cycleTests e l n w2 else w2

/-- Passes enough for one event: a pass that completes an element at once is due no more than the largest late tolerance back, and
each pass is due after the one before. -/
def cycleRounds : Nat := 260

/-- The test of the cycle range of a lane's ON_AIR item, with the cycle that the item holds at the test (R135, R136; log 60). -/
def World.cycleTest (e : Env) (w : World) (l : Fin 4) : World := World.cycleTests e l cycleRounds w

/-- The test of the range that the completions of an event make due (R136). -/
def World.testCompleted (e : Env) (before after : World) (l : Fin 4) : World :=
  if World.completed before after l then World.cycleTest e after l else after

/-! ### Loads that firings wait for (R130) -/

/-- An entry waiting for load completes its firing once its LOAD is answered: ROLL for a LOADED clip, late when Fnow is after its
due frame, and FAILED with the load failure for one whose load failed (R130). -/
def World.finishWait (e : Env) (l : Fin 4) (w : World) (en : FireEntry) : World :=
  if !en.waitLoad then w
  else
    match w.store.elem? en.ref with
    | none => w.dropEntry l en.ref
    | some (_, el) =>
      match el.load with
      | .loaded =>
        let w1 := if fcBefore en.due e.now then w.modElem en.ref (fun x => { x with late := true }) else w
        World.admitNext e ((World.rollClip e w1 l en.ref el).dropEntry l en.ref) l
      | .loadFailed =>
        World.admitNext e ((w.modElem en.ref (Element.fail ((el.loadFailure.map LoadFailure.reason).getD .portFault))).dropEntry
          l en.ref) l
      | _ => w

/-- Whether an entry waits for a LOAD that has been answered. -/
def World.waitOver (w : World) (en : FireEntry) : Bool :=
  en.waitLoad &&
    (match w.store.elem? en.ref with
     | none => true
     | some (_, el) => decide (el.load = .loaded) || decide (el.load = .loadFailed))

/-- Whether an element is one of the cycle range of a lane's ON_AIR item (R135). -/
def World.inCycle (w : World) (l : Fin 4) (ref : ElemRef) : Bool :=
  match w.onAirItem? l with
  | none => false
  | some it => decide (it.ref = ref.item) && it.cycleElements.any (fun el => decide (el.ref = ref.elem))

/-- The entries of a lane whose LOAD has been answered complete their firing. The cycle is tested where one of the cycle range has
left, or where an admission that a departure made has completed an element of the range (R130, R136; log 11). -/
def World.finishWaits (e : Env) (w : World) (l : Fin 4) : World :=
  let over' := (w.lane l).fireQueue.filter w.waitOver
  let w1 := over'.foldl (World.finishWait e l) w
  if over'.any (fun en => w.inCycle l en.ref) then World.cycleTest e w1 l else World.testCompleted e w w1 l

/-! ### Edits to the item on air (R137 to R139) -/

/-- A change to an element of an item, as a change notice lists it (R26): the element, the record as it was before a retargeting or
removal, and the index that a removed element had. -/
inductive ElemChange where
  | added (ref : ElemRef)
  | retimed (ref : ElemRef)
  | retargeted (ref : ElemRef) (old : Element)
  | removed (ref : ElemRef) (old : Element) (index : Nat)
deriving DecidableEq, Repr

/-- A queued entry taken out of the queue and its element back to WAITING (R137). -/
def World.takeOut (w : World) (l : Fin 4) (ref : ElemRef) : World :=
  (w.dropEntry l ref).modElem ref (fun x => { x with fire := .waiting })

/-- An entry placed anew in the queue of its item (R137, R138). -/
def World.placeAnew (w : World) (l : Fin 4) (it : Item) (en : FireEntry) : World :=
  (w.dropEntry l en.ref).modQueue l (placeEntry it en)

/-- A queued entry placed anew by the element's due frame and standby point, or, when that due frame is before Fnow, taken out and
treated as admitted (R137). An entry waiting for load that moves to another due frame waits for load no longer unless that
frame is Fnow, and fires by its load state when its due frame comes (log 39). -/
def World.requeue (e : Env) (w : World) (l : Fin 4) (ref : ElemRef) : World :=
  match w.store.elem? ref with
  | none => w
  | some (it, el) =>
    let due := it.due el
    match (w.lane l).fireQueue.find? (fun x => decide (x.ref = ref)) with
    | none => w
    | some en =>
      if due = en.due then
        w.modQueue l (fun q => q.map (fun x => if x.ref = ref then { x with standbyPoint := el.standbyPoint due } else x))
      else if fcBefore due e.now then World.treatAdmitted e (w.takeOut l ref) l it el
      else
        w.placeAnew l it
          { en with due, standbyPoint := el.standbyPoint due, waitLoad := en.waitLoad && decide (due = e.now) }

/-- An element that was waiting for load fires at once under its new target, with its late flag set (R138, R156). -/
def World.fireLate (e : Env) (w : World) (l : Fin 4) (en : FireEntry) : World :=
  let (w1, stay) := World.fireElement e (w.modElem en.ref (fun x => { x with late := true })) l en.ref en.due
  if stay then w1 else World.admitNext e (w1.dropEntry l en.ref) l

/-- A queued element retargeted, `new` being its record now: it keeps its entry, placed anew where its due frame changed, and one
that was waiting for load and is still past due fires at once (R138). One that was waiting for load and whose due frame has moved after
Fnow is placed anew and waits for load no longer, R138 giving both effects: the model's choice (log 39). -/
def World.retargetQueued (e : Env) (w : World) (l : Fin 4) (it : Item) (old new : Element) (en : FireEntry) : World :=
  let ref := it.refOf new
  let w1 := if old.content.isClip && decide (old.content ≠ new.content) then
      (w.modLane l (LaneRec.dropLoad ref)).modElem ref Element.unload
    else w
  let moved := decide (old.content.station? ≠ new.content.station?)
  let w2 := match old.content with
    | .cue st _ _ => if moved then (World.clearCue e w1 st ref false).modLane l (LaneRec.dropCue ref) else w1
    | _ => w1
  let w3 := w2.modQueue l (fun q => q.map (fun x =>
    if x.ref = ref then { x with standbyPoint := new.standbyPoint x.due, asked := x.asked && !moved } else x))
  let due := it.due new
  if en.waitLoad && !fcBefore e.now due then
    let en' := { en with due, standbyPoint := new.standbyPoint due, asked := en.asked && !moved }
    World.fireLate e (w3.placeAnew l it en') l en'
  else World.requeue e w3 l ref

/-- One change to an element of the lane's ON_AIR item acted on (R137 to R139). An element ADDED inside the cycle range once a later
pass has begun takes the current pass, in its pass field as well as for its due frame (log 31). The cue of
one REMOVED is cleared from every station that holds it (R44; log 55). -/
def World.actOnAir (e : Env) (l : Fin 4) (w : World) (c : ElemChange) : World :=
  match c with
  | .added ref =>
    match w.store.elem? ref with
    | none => w
    | some (it, el) =>
      let k := (w.lane l).passCount
      let inRange := it.cycleElements.any (fun x => decide (x.ref = el.ref))
      let w1 := match it.cycleRange with
        | some (_, _, period) =>
          if inRange && decide (k ≠ 0) then
            w.modElem ref (fun x => { x with pass := k, shift := k * BitVec.ofNat 32 period })
          else w
        | none => w
      World.admitNext e w1 l
  | .retimed ref =>
    match w.store.elem? ref with
    | none => w
    | some (_, el) =>
      if el.fire = .queued then World.requeue e w l ref
      else if el.fire = .waiting then World.admitNext e w l
      else w
  | .retargeted ref old =>
    match w.store.elem? ref with
    | none => w
    | some (it, el) =>
      if el.fire = .queued then
        match (w.lane l).fireQueue.find? (fun x => decide (x.ref = ref)) with
        | some en => World.retargetQueued e w l it old el en
        | none => w
      else if el.fire = .waiting ∧ el.offset ≠ old.offset then World.admitNext e w l
      else w
  | .removed ref old _ =>
    let w1 := World.clearCueEverywhere e ((w.modLane l (LaneRec.dropLoad ref)).modLane l (LaneRec.dropCue ref)) ref
    if old.fire = .queued then World.admitNext e (w1.dropEntry l ref) l else w1

/-- One change to an element of the lane's ON_AIR item, with the test of the cycle range that an element completed by it makes due
(R136 to R139). -/
def World.changeOnAir (e : Env) (l : Fin 4) (w : World) (c : ElemChange) : World :=
  World.testCompleted e w (World.actOnAir e l w c) l

end Sys2Proof.Machine
end

