-- ==== Sys2Proof/Machine/Latches.lean ====
section
/-! DEFINITION. Latching: the latched flag and count of an instance, the newly latched notice and the pulse it asks for (R190,
R196, R201, R206). -/
namespace Sys2Proof.Machine

/-- A latching: the flag is set and the count rises, stopping at 255 (R190). -/
def Inst.latch (i : Inst) : Inst := { i with latched := true, count := min 255 (i.count + 1) }

/-- A judgement of a state instance: it latches when it becomes active (R190). -/
def Inst.judge (active : Bool) (i : Inst) : Inst :=
  if active && !i.active then { i.latch with active := true } else { i with active }

/-- The newly latched notice of a cause: in PULSE mode, for a cause that is not masked, it adds one to the pending pulses, which
stop at 255 (R201, R206). Nothing is noticed where the flag was set before or is not set now. -/
def World.notice (e : Env) (k : Cond) (before after : Inst) (w : World) : World :=
  if after.latched && !before.latched && decide (e.cfg.attnMode = .pulse) && !e.cfg.masked k then
    { w with pulse := { w.pulse with pending := min 255 (w.pulse.pending + 1) } }
  else w

/-- GATE_TIMEOUT of a lane latches (R196). -/
def World.latchGate (e : Env) (w : World) (l : Fin 4) : World :=
  let i := w.monitor.gateTimeout.get l
  World.notice e .gateTimeout i i.latch
    (w.setMonitor { w.monitor with gateTimeout := w.monitor.gateTimeout.set l i.latch })

/-- CLOCK_SLIP latches (R66, R196). -/
def World.latchSlip (e : Env) (w : World) : World :=
  let i := w.monitor.clockSlip
  World.notice e .clockSlip i i.latch (w.setMonitor { w.monitor with clockSlip := i.latch })

/-- RX_OVERRUN of a port latches (R166, R196). -/
def World.latchOverrun (e : Env) (w : World) (p : Fin 8) : World :=
  let i := w.monitor.rxOverrun.get p
  World.notice e .rxOverrun i i.latch (w.setMonitor { w.monitor with rxOverrun := w.monitor.rxOverrun.set p i.latch })

/-- STATION_CALL of a station latches (R187, R196). -/
def World.latchCall (e : Env) (w : World) (st : Fin 6) : World :=
  let i := w.monitor.stationCall.get st
  World.notice e .stationCall i i.latch
    (w.setMonitor { w.monitor with stationCall := w.monitor.stationCall.set st i.latch })

/-- STATION_HOLD of a station latches (R186, R196). -/
def World.latchHold (e : Env) (w : World) (st : Fin 6) : World :=
  let i := w.monitor.stationHold.get st
  World.notice e .stationHold i i.latch
    (w.setMonitor { w.monitor with stationHold := w.monitor.stationHold.set st i.latch })

end Sys2Proof.Machine
end

