-- ==== Sys2Proof/Machine/Sequencer.lean ====
section
/-! DEFINITION. The Lane Sequencer: NEXT and arming (R97 to R103), takes (R104 to R113), the action level in the lane (R122), and
what answers, END notices and READY do to a lane (R99, R112, R132, R133). -/
namespace Sys2Proof.Machine

/-! ### Arming and disarming (R98, R102) -/

/-- One CLIP of the NEXT item resolved, claimed and, where it is the earliest of the item on its entry, loaded, or its LOAD deferred
behind the ON_AIR item; one whose LOAD is sent now is deferred no longer (R98, R103, R148). -/
def World.armClip (e : Env) (l : Fin 4) (w : World) (ref : ElemRef) : World :=
  match w.store.elem? ref with
  | none => w
  | some (it, el) =>
    match el.content with
    | .clip d _ =>
      let (w1, r) := World.resolve e w d
      match r with
      | .unmapped => w1.modElem ref (Element.fail .unmapped)
      | .portFault => w1.modElem ref (Element.fail .portFault)
      | .target t .graphics => World.sendLoadTo e w1 l it el d t
      | .target t .playout =>
        let (w2, answer) := w1.requestClaim l it.key d
        let earliest := match (w2.item? it.key).bind (fun i => i.earliestClip d) with
          | some x => decide (x.ref = el.ref) && decide (x.load = .unloaded)
          | none => false
        if !earliest then w2
        else
          match answer with
          | .granted => World.sendLoadTo e (w2.modLane l (LaneRec.undefer d)) l it el d t
          | .deferred => w2.modLane l (LaneRec.defer d)
          | .conflict => w2
    | _ => w

/-- The NEXT item of a lane armed (R98). -/
def World.arm (e : Env) (w : World) (l : Fin 4) : World :=
  match w.nextItem? l with
  | none => w
  | some it =>
    ((byOffset (it.elements.filter (·.content.isClip))).map it.refOf).foldl (World.armClip e l) w

/-- Whether a fail reason is one that arming or a refused standby gives (R102). -/
def FailReason.ofArming : FailReason → Bool
  | .unmapped => true
  | .portFault => true
  | .wrongLane => true
  | _ => false

/-- An element of an item that is disarmed: a CLIP is UNLOADED again, and one that arming made FAILED waits again (R102). -/
def Element.disarm (el : Element) : Element :=
  let el1 := if el.content.isClip then el.unload else el
  match el1.fire, el1.failReason with
  | .failed, some r => if r.ofArming then el1.await else el1
  | _, _ => el1

/-- The load list without the entries of an item. -/
def LaneRec.dropItemLoads (item : Ref) (r : LaneRec) : LaneRec :=
  { r with loadList := r.loadList.filter (fun x => decide (x.ref.item ≠ item)) }

/-- The cue list without the cues of an item. -/
def LaneRec.dropItemCues (item : Ref) (r : LaneRec) : LaneRec :=
  { r with cueList := r.cueList.filter (fun x => decide (x.item ≠ item)) }

/-- The NEXT item of a lane disarmed: it stops being NEXT, its claims are released and its waits given up, its loads forgotten, its
standbys cleared, its arming failures undone, and its state is PENDING (R102). -/
def World.disarm (e : Env) (w : World) (l : Fin 4) : World :=
  match w.nextItem? l with
  | none => w
  | some it =>
    let w0 := (w.modLane l (fun r => { r with next := none, deferred := [] })).askRecompute l
    let w1 := World.releaseItem e w0 l it.key
    let w2 := w1.modLane l (LaneRec.dropItemLoads it.ref)
    let w3 := (World.clearItemCues e w2 it.ref false).modLane l (LaneRec.dropItemCues it.ref)
    w3.modItem it.key (fun i => { i with state := .pending, elements := i.elements.map Element.disarm })

/-- NEXT derived again: nothing in IDLE or where the first included item is NEXT already; otherwise the old NEXT is disarmed and
the new one, if any, made NEXT and armed (R97). -/
def World.deriveNext (e : Env) (w : World) (l : Fin 4) : World :=
  if (w.lane l).state = .idle then w
  else
    let first := ((w.store.included l (w.lane l).cursor).head?).map (·.key)
    if first = (w.lane l).next then w
    else
      let w1 := World.disarm e w l
      match first with
      | none => w1.askRecompute l
      | some k =>
        let w2 := (w1.modItem k (fun i => { i with state := .next })).modLane l (fun r => { r with next := some k })
        (World.arm e w2 l).askRecompute l

/-! ### Element changes on NEXT (R100) -/

/-- A CLIP of the NEXT item that has left an entry: the claim is released, the lane's wait given up and any deferred LOAD forgotten,
when no other CLIP of the item uses the entry (R100, R149). -/
def World.leaveEntry (e : Env) (w : World) (l : Fin 4) (k : Nat) (d : Fin 64) : World :=
  match w.item? k with
  | none => w
  | some it => if it.hasClipOn d then w
    else ((World.releaseUse e l k w d).modLane l (LaneRec.undefer d)).cleanWaiters l

/-- What a change takes from an element of the NEXT item as it was: a CLIP's load list entry and its use of the old entry, a
CUE's standby and its place in the cue list (R100). -/
def World.dropOld (e : Env) (w : World) (l : Fin 4) (k : Nat) (ref : ElemRef) (old : Element) : World :=
  match old.content with
  | .clip d _ => World.leaveEntry e (w.modLane l (LaneRec.dropLoad ref)) l k d
  | .cue st _ _ => (World.clearCue e w st ref false).modLane l (LaneRec.dropCue ref)
  | _ => w

/-- Whether an element of a list that had index `index` in it, as it was, stands at or before a place in the order of the item's
CLIPs, by offset and then by index (R98). -/
def Item.standsFrom (it : Item) (old : Element) (index : Nat) (el : Element) : Bool :=
  decide (old.offset < el.offset) ||
    (decide (old.offset = el.offset) && decide (index ≤ (it.index? el.ref).getD 0))

/-- The LOAD of a later CLIP that the removal of a CLIP from its entry has left as the earliest there, `old` being that CLIP as it was
and `index` the index it had (R100; log 43). -/
def World.loadLater (e : Env) (w : World) (l : Fin 4) (k : Nat) (old : Element) (index : Nat) : World :=
  match old.content, w.item? k with
  | .clip d _, some it =>
    match it.earliestClip d with
    | some el => if it.standsFrom old index el then World.loadEarliest e w l k d else w
    | none => w
  | _, _ => w

/-- Whether an element that was a CLIP on an entry is one on that entry still. -/
def World.staysOn (w : World) (ref : ElemRef) (old : Element) : Bool :=
  match old.content, w.store.elem? ref with
  | .clip d _, some (_, el) => el.isClipOn d
  | _, _ => false

/-- One change to an element of the lane's NEXT item, of key `k`, acted on (R100). A RETARGETED element loses its fail reason and
stands WAITING again, whatever kind it now has (log 36); one that was a CLIP on an entry and is not one there any longer has been
removed from that entry, and one that stays a CLIP on its entry has not (log 43). -/
def World.changeNext (e : Env) (l : Fin 4) (k : Nat) (w : World) (c : ElemChange) : World :=
  match c with
  | .added ref => World.armClip e l w ref
  | .retimed _ => w
  | .retargeted ref old =>
    let w1 := w.modElem ref (fun x => if old.content.isClip then x.await.unload else x.await)
    let w2 := World.armClip e l (World.dropOld e w1 l k ref old) ref
    let index := ((w.item? k).bind (fun it => it.index? ref.elem)).getD 0
    if w.staysOn ref old then w2 else World.loadLater e w2 l k old index
  | .removed ref old index => World.loadLater e (World.dropOld e w l k ref old) l k old index

/-! ### Change notices (R22, R26, R97, R112) -/

/-- A lane in WAITING leaves it: GATE cleared, the gate due point removed, the state set (R96, R112). -/
def World.leaveWaiting (w : World) (l : Fin 4) : World :=
  if (w.lane l).state = .waiting then
    (w.modLane l (fun r => { r with gate := false, gateDue := none })).setState l
  else w

/-- How a request left a lane's ON_AIR item other than it was: in its planned duration, its end mode, its cycle (R26). -/
structure OnAirChange where
  planned : Bool
  endMode : Bool
  cycle : Bool
deriving DecidableEq, Repr

/-- A change notice of a lane (R26): whether its included items changed; whether and how its ON_AIR item changed; the element changes
on the ON_AIR item and on the NEXT item; and whether the request itself disarmed the NEXT item. -/
structure Notice where
  included : Bool
  item : OnAirChange
  onAir : List ElemChange
  next : List ElemChange
  disarmed : Bool
deriving DecidableEq, Repr

/-- Whether a lane's included items changed from one world to another: one joined or left them, their order changed, or an item of the
order that was and is live pending has another planned duration or absorber field (R26, R32). -/
def World.includedChanged (was w : World) (l : Fin 4) : Bool :=
  let keys := fun v : World => (v.store.included l (v.lane l).cursor).map (·.key)
  decide (keys was ≠ keys w) ||
    w.store.items.any (fun it => decide (it.lane = l) && decide (it.place = .order) && it.livePending &&
      (match was.item? it.key with
       | some old => decide (old.lane = l) && old.livePending &&
          (decide (old.planned ≠ it.planned) || decide (old.absorber ≠ it.absorber))
       | none => false))

/-- How a lane's ON_AIR item changed from one world to another (R26, R33). -/
def World.onAirChange (was w : World) (l : Fin 4) : OnAirChange :=
  let old := was.onAirItem? l
  let new := w.onAirItem? l
  { planned := decide (old.map (·.planned) ≠ new.map (·.planned))
    endMode := decide (old.map (·.endMode) ≠ new.map (·.endMode))
    cycle := decide (old.map (·.cycle) ≠ new.map (·.cycle)) }

/-- The notice of a lane whose records a request has changed from `was` to `w`, with no element change listed and NEXT not disarmed
by it (R22, R26). -/
def Notice.between (was w : World) (l : Fin 4) : Notice :=
  { included := was.includedChanged w l, item := was.onAirChange w l, onAir := [], next := [], disarmed := false }

/-- A change notice reaches a lane: the element changes on its ON_AIR item and on its NEXT item are acted on, NEXT is derived
again, and where an item stopped being NEXT the lane leaves the waiter lists that its items no longer need (R149; log 28); a lane
in WAITING whose NEXT changed, was disarmed by the request or had its elements changed leaves WAITING, and the lane is recomputed
(R22, R26, R73, R97, R112). NEXT is derived and the lane recomputed whatever the notice reports of the included items and of the
ON_AIR item (R73, R97), whose new planned, end mode and cycle the next frame arrival tests (R33). -/
def World.applyNotice (e : Env) (w : World) (l : Fin 4) (n : Notice) : World :=
  let before := (w.lane l).next
  let w1 := n.onAir.foldl (World.changeOnAir e l) w
  let w2 := match before with
    | some k => n.next.foldl (World.changeNext e l k) w1
    | none => w1
  let w3 := World.deriveNext e w2 l
  let changed := decide ((w3.lane l).next ≠ before)
  let w4 := if n.disarmed || (before.isSome && changed) then w3.cleanWaiters l else w3
  let w5 := if n.disarmed || changed || decide (n.next ≠ []) then w4.leaveWaiting l else w4
  w5.askRecompute l

/-! ### Leaving air (R105, R109, R116, R140) -/

/-- An item that leaves air: an ORDER item is DONE with its actual, the standby item PENDING with its start cleared (R15). -/
def Item.leaveAir (e : Env) (it : Item) : Item :=
  match it.place with
  | .order => { it with state := .done, actual := some (clampDuration (it.elapsed e)), effPlanned := none }
  | .standby => { it with state := .pending, start := none, effPlanned := none }

/-- The ON_AIR item of a lane leaves air: its fire queue is emptied, its loads, cues and claims released, and its state recorded;
then the LOADs deferred behind it are sent where `send` says so (R103), and done retention applies (R23). A FILLING take sends them
later, after the standby item has gone to air (R109). -/
def World.leaveAir (e : Env) (w : World) (l : Fin 4) (send : Bool) : World :=
  match w.onAirItem? l with
  | none => w
  | some it =>
    let queue := (w.lane l).fireQueue
    let w1 := queue.foldl (fun w en => w.modElem en.ref (fun x => { x with fire := .waiting }))
      (w.modQueue l (fun _ => []))
    let w2 := (w1.modLane l (LaneRec.dropItemLoads it.ref)).modLane l (LaneRec.dropItemCues it.ref)
    let w3 := World.clearItemCues e w2 it.ref true
    let w4 := (w3.modItem it.key (Item.leaveAir e)).modLane l (fun r => { r with onAir := none })
    let w5 := World.releaseItem e w4 l it.key
    let w6 := if send then World.sendDeferred e w5 l else w5
    match it.place with
    | .order => w6.retain l (e.cfg.lanes.get l).doneRetain
    | .standby => w6

/-! ### Takes (R104 to R109) -/

/-- Whether a take passes the guard (R104). -/
def World.guardPasses (e : Env) (w : World) (l : Fin 4) : Bool :=
  match (w.lane l).lastTake with
  | none => true
  | some t => decide (((e.cfg.lanes.get l).takeGuard : Int) ≤ fcDist t e.now)

/-- The effective planned of an item that a take puts to air: its planned, or for the lane's absorber the effective duration of
the last recompute (R16, R79). -/
def World.plannedAtTake (w : World) (l : Fin 4) (it : Item) : Nat :=
  match it.absorber with
  | none => it.planned
  | some a =>
    match (w.timing.get l).absorber with
    | some (k, peff) => if k = it.key then peff else max a.min (min a.max it.planned)
    | none => max a.min (min a.max it.planned)

/-- An item goes to air: ON_AIR with its start and effective planned, its proposed drop mark cleared, and the fire queue filled from
it with the pass count at 0, with the test of its cycle range that a firing completed by it makes due (R15 to R17, R126, R136). -/
def World.goOnAir (e : Env) (w : World) (l : Fin 4) (k planned : Nat) : World :=
  let start : Start := { fs := e.now, label := e.ref.rate.label e.ref.t }
  let w1 := w.modItem k (fun i =>
    { i with state := .onAir, start := some start, effPlanned := some planned, proposed := false })
  let w2 := w1.modLane l (fun r => { r with onAir := some k, passCount := 0 })
  World.testCompleted e w2 (World.fillQueue e l (·.elements) admitRounds w2) l

/-- The end of a take: NEXT derived again, where an item left air (`left`) the waiter lists that the lane's items no longer need
left, GATE and the gate due point cleared, the last take set, the state set (R104, R105, R109, R149; log 28). -/
def World.endTake (e : Env) (w : World) (l : Fin 4) (left : Bool) : World :=
  let w0 := World.deriveNext e w l
  let w1 := if left then w0.cleanWaiters l else w0
  ((w1.modLane l (fun r => { r with gate := false, gateDue := none, lastTake := some e.now })).setState l).askRecompute l

/-- A take of NEXT (R105). -/
def World.take (e : Env) (w : World) (l : Fin 4) : World :=
  match w.nextItem? l with
  | none => w
  | some it =>
    let w1 := World.leaveAir e w l true
    let w2 := w1.modLane l (fun r => { r with next := none, cursor := some it.key })
    World.endTake e (World.goOnAir e w2 l it.key (w2.plannedAtTake l it)) l (w.onAirItem? l).isSome

/-- The FILLING take of the standby item: the LOADs of NEXT that were deferred behind the item that has left air are sent once the
standby item is on air (R109). -/
def World.fillingTake (e : Env) (w : World) (l : Fin 4) : World :=
  match (w.store.standbys.get l).bind w.item? with
  | none => w
  | some it =>
    let w1 := World.leaveAir e w l false
    let w2 := w1.modItem it.key (fun i => { i with elements := i.elements.map Element.renew })
    World.endTake e (World.sendDeferred e (World.goOnAir e w2 l it.key it.planned) l) l (w.onAirItem? l).isSome

/-- Whether a lane has a standby item. -/
def World.hasStandby (w : World) (l : Fin 4) : Bool := (w.store.standbys.get l).isSome

/-- Whether the gate of a lane's NEXT item is satisfied: it has none, or its gating cue's station shows its standby with response
READY (R111). -/
def World.gateSatisfied (w : World) (l : Fin 4) : Bool :=
  match w.nextItem? l with
  | none => true
  | some it =>
    match it.gating? with
    | none => true
    | some el =>
      match el.content with
      | .cue st _ _ =>
        match (w.stations.get st).standby with
        | some c => decide (c.req.ref = it.refOf el) && decide (c.response = .ready)
        | none => false
      | _ => true

/-- Whether the ON_AIR item of a lane meets its auto-take condition (R107). -/
def World.autoDue (e : Env) (w : World) (l : Fin 4) : Bool :=
  match w.onAirItem? l with
  | none => false
  | some it =>
    match it.place, it.endMode with
    | .standby, _ => false
    | .order, .manual => false
    | .order, .timed => decide (it.effPlanned.getD 0 ≤ it.elapsed e)
    | .order, .clip i =>
      match it.elements[i]? with
      | some el => decide (el.fire = .ended)
      | none => false

/-- Whether the divert path applies (R108 step 2). -/
def World.diverts (w : World) (l : Fin 4) : Bool :=
  decide ((w.lane l).actionLevel = 1) && ((w.lane l).next.isNone || (w.monitor.notReady.get l).active) && w.hasStandby l

/-- A lane enters WAITING (R111). -/
def World.enterWaiting (e : Env) (w : World) (l : Fin 4) : World :=
  (w.modLane l (fun r => { r with gate := true, gateDue := some e.now })).setState l

/-- The evaluation of an auto-take (R108). -/
def World.evalAuto (e : Env) (w : World) (l : Fin 4) : World :=
  if !World.guardPasses e w l then w
  else if w.diverts l then World.fillingTake e w l
  else if (w.lane l).next.isNone then w
  else if !w.gateSatisfied l then World.enterWaiting e w l
  else World.take e w l

/-- The auto-take tested at an event: evaluated in RUNNING where it is due (R107). It is tested on the ON_AIR item as it then stands, so
an AMEND counts at once at a RESUME, a READY or an END that comes before the next frame arrival: the model's choice (R33, R107,
log 60). -/
def World.testAuto (e : Env) (w : World) (l : Fin 4) : World :=
  if decide ((w.lane l).state = .running) && World.autoDue e w l then World.evalAuto e w l else w

/-! ### Holding (R96, R113, R118, R122) -/

/-- OPERATOR set: GATE cleared with its due point, the state set (R96, R113, R118). -/
def World.setOperator (w : World) (l : Fin 4) : World :=
  (w.modLane l (fun r => { r with operator := true, gate := false, gateDue := none })).setState l

/-- The action level of a lane changes: recorded, and in a lane that is not IDLE acted on at once (R122); with `entry`, on entry to
level 3, OPERATOR is set with it (R199). A change to level 1 in WAITING tests the divert path at once; where the guard refuses the
FILLING take, it is not tried again (R104, R107, R112; log 44). -/
def World.setLevel (e : Env) (w : World) (l : Fin 4) (level : Nat) (entry : Bool) : World :=
  let r := w.lane l
  let w0 := w.modLane l (fun r => { r with actionLevel := level })
  if r.state = .idle then w0
  else if 2 ≤ level then
    (w0.modLane l (fun r =>
      { r with action := true, operator := r.operator || entry, gate := false, gateDue := none })).setState l
  else
    let w1 := (w0.modLane l (fun r => { r with action := false })).setState l
    if decide (r.state = .waiting) && decide (level = 1) && w1.diverts l && World.guardPasses e w1 l then
      World.fillingTake e w1 l
    else w1

/-- The gate of a lane tested against the gate timeout that was in force at the last frame arrival (R113). -/
def World.gateTest (e : Env) (w : World) (l : Fin 4) : World :=
  match (w.lane l).gateTick with
  | none => w
  | some timeout =>
    let w1 := w.modLane l (fun r => { r with gateTick := none })
    match (w.lane l).gateDue with
    | none => w1
    | some due =>
      if decide ((w.lane l).state = .waiting) && decide (timeout ≠ 0) && decide ((timeout : Int) ≤ fcDist due e.now) then
        World.latchGate e (w1.setOperator l) l
      else w1

/-- A lane's last take cleared at the first frame arrival at which it lies more than 50 frames back (R104). -/
def World.lastTakeTest (e : Env) (w : World) (l : Fin 4) : World :=
  if !(w.lane l).lastTick then w
  else
    w.modLane l (fun r =>
      { r with lastTick := false
               lastTake := match r.lastTake with
                 | some t => if 50 < fcDist t e.now then none else some t
                 | none => none })

/-! ### A frame arrival in a lane (R127, R136, R107, R112) -/

/-- A lane's own work at a frame arrival, in the order R127 gives: standbys and firing, the cycle test, the auto-take. In WAITING
an evaluation that the guard refused is made again while the gate is satisfied and the auto-take condition holds (R107, R112; log
42). -/
def World.laneArrival (e : Env) (w : World) (l : Fin 4) : World :=
  let w1 := World.cycleTest e (World.fireArrival e w l) l
  if decide ((w1.lane l).state = .waiting) then
    (if w1.gateSatisfied l && World.autoDue e w1 l then World.evalAuto e w1 l else w1)
  else World.testAuto e w1 l

/-! ### Answers (R99, R132) and END notices (R133) -/

/-- What an outcome makes of an element whose LOAD it answers (R99). -/
def MsgOutcome.load (o : MsgOutcome) (el : Element) : Element :=
  match o with
  | .ack => { el with load := .loaded, loadFailure := none }
  | .nakNotFound => el.loadFail .nakNotFound
  | .nakRefused => el.loadFail .nakRefused
  | .nakBusy => el.loadFail .nakBusy
  | .timeout => el.loadFail .timeout
  | .portFault => el.loadFail .portFault

/-- What an outcome makes of a SENT element (R132). -/
def MsgOutcome.complete (o : MsgOutcome) (el : Element) : Element :=
  match o with
  | .ack => { el with fire := .done, failReason := none }
  | .nakNotFound => el.fail .nakNotFound
  | .nakRefused => el.fail .nakRefused
  | .nakBusy => el.fail .nakBusy
  | .timeout => el.fail .timeout
  | .portFault => el.fail .portFault

/-- Whether a message is a LOAD. -/
def CueMsg.isLoad : CueMsg → Bool
  | .load _ _ => true
  | _ => false

/-- The answer of a LOAD reaches its lane: a matching load list entry is removed and the load state written (R99). That it is written
also for a WAITING CLIP of the item on air that a SETEL has since made another kind is the model's choice (R138, log 56). -/
def World.answerLoad (w : World) (ow : Owner) (o : MsgOutcome) : World :=
  if (w.lane ow.lane).loadList.any (fun x => decide (x.ref = ow.ref) && decide (x.number = ow.number)) then
    (w.modLane ow.lane (LaneRec.dropLoad ow.ref)).modElem ow.ref o.load
  else w

/-- The answer of a fired message reaches its lane: a SENT element of the same pass is completed, and the completion of an element
of the ON_AIR item's cycle range tests the range (R132, R136). -/
def World.answerFired (e : Env) (w : World) (ow : Owner) (o : MsgOutcome) : World :=
  match w.store.elem? ow.ref with
  | none => w
  | some (it, el) =>
    if el.fire = .sent ∧ el.pass = ow.pass then
      let w1 := w.modElem ow.ref o.complete
      if decide ((w.lane ow.lane).onAir = some it.key) && it.cycleElements.any (fun x => decide (x.ref = el.ref)) then
        World.cycleTest e w1 ow.lane
      else w1
    else w

/-- An answer handed to the owner of its message (R152, R168). -/
def World.answer (e : Env) (w : World) (msg : CueMsg) (owner : Option Owner) (o : MsgOutcome) : World :=
  match owner with
  | none => w
  | some ow => if msg.isLoad then w.answerLoad ow o else World.answerFired e w ow o

/-- Whether an END notice ends an element (R133). -/
def Element.canEnd (el : Element) : Bool :=
  decide (el.fire = .sent) || decide (el.fire = .done) ||
    (decide (el.fire = .failed) && decide (el.failReason = some .timeout))

/-- An END notice from a port and channel: the element last rolled there becomes ENDED, and when it is the end clip of its lane's
ON_AIR item the auto-take is tested at once; the ENDED element of a cycle range that is still on air is a completion, at which the
range is tested (R133, R136, R153, R170; log 11). -/
def World.endNotice (e : Env) (w : World) (t : Target) : World :=
  match w.rolls.get t.place with
  | none => w
  | some ow =>
    match w.store.elem? ow.ref with
    | none => w
    | some (it, el) =>
      if el.canEnd then
        let w1 := w.modElem ow.ref (fun x => { x with fire := .ended, failReason := none })
        let isEnd := decide ((w.lane ow.lane).onAir = some it.key) &&
          (match it.endMode.index? with
           | some i => decide (it.index? ow.ref.elem = some i)
           | none => false)
        let w2 := if isEnd then World.testAuto e w1 ow.lane else w1
        if decide ((w2.lane ow.lane).onAir = some it.key) && it.cycleElements.any (fun x => decide (x.ref = el.ref)) then
          World.cycleTest e w2 ow.lane
        else w2
      else w

/-! ### Ports: faulting, recovery and completions (R145, R167 to R169, R174) -/

/-- The failures of messages that a port still held handed to their owners (R169, R174). -/
def World.failMessages (e : Env) (w : World) (q : List Queued) : World :=
  q.foldl (fun w m => World.answer e w m.msg (some m.owner) .portFault) w

/-- A port enters FAULTED: the router makes its switches and re-pointing, entry by entry from 0 to 63 (log 45), and then hands on the
failures (R144, R145, R169). -/
def World.enterFaulted (e : Env) (w : World) (p : Fin 8) : World :=
  let q := (w.ports.get p).waitingMessages (e.cfg.ports.get p)
  let w1 := w.modPort p (Port.fault e.now)
  let w2 := (places 64).foldl (fun w d =>
    if (w.map.get d).valid && decide ((w.map.get d).target.port = p) then World.trySwitch e w d else w) w1
  World.failMessages e w2 q

/-- A window record leaves its port with an outcome: handed to its owner, then counted for the port's health, which may fault the
port or bring it back (R166 to R169). -/
def World.completeRecord (e : Env) (p : Fin 8) (o : MsgOutcome) (w : World) (rc : WinRec) : World :=
  let probe := decide (rc.msg = .probe)
  let w1 := w.modPort p (fun r => { r with window := r.window.filter (fun x => decide (x.seq ≠ rc.seq)) })
  let w2 := World.answer e w1 rc.msg rc.owner o
  let w3 := w2.modPort p (Port.count probe o)
  let r := w3.ports.get p
  let c := e.cfg.ports.get p
  if r.state = .inService ∧ o = .timeout ∧ c.faultThreshold ≤ r.failures then World.enterFaulted e w3 p
  else if r.state = .faulted ∧ probe ∧ o ≠ .timeout ∧ c.recoverCount ≤ r.probeAcks then w3.modPort p Port.recover
  else w3

/-- The outstanding records that have reached the ack timeout complete with TIMEOUT in the order they were transmitted, and the
arbiter runs once all of them have (R167). Where an answer makes a cycle submit to the same port, that submission runs the arbiter
before the records that remain have completed (R162, R164; log 46). -/
def World.timeoutTest (e : Env) (w : World) (p : Fin 8) : World :=
  match (w.ports.get p).ackTick with
  | none => w
  | some timeout =>
    let w0 := w.modPort p (fun r => { r with ackTick := none })
    let expired := (w.ports.get p).window.filter (fun rc => decide ((timeout : Int) ≤ fcDist rc.sent e.now))
    if expired = [] then w0 else World.arbiter e (expired.foldl (World.completeRecord e p .timeout) w0) p

/-- The probe interval of a FAULTED port tested (R169). -/
def World.probeTest (e : Env) (w : World) (p : Fin 8) : World :=
  match (w.ports.get p).probeTick with
  | none => w
  | some interval =>
    let r := { w.ports.get p with probeTick := none }
    match r.state, r.probeStart with
    | .faulted, some t =>
      if (interval : Int) ≤ fcDist t e.now then
        let r' := { r with probeStart := some e.now
                           priority := if r.priority.contains .probe then r.priority else r.priority ++ [.probe] }
        World.arbiter e (w.setPort p r') p
      else w.setPort p r
    | _, _ => w.setPort p r

/-! ### Station buttons (R186) -/

/-- A READY heard from a station (R186): it clears call to station, or is recorded on the cue in the standby slot and handed to
the cue's lane, where the gate of a lane in WAITING whose auto-take condition holds evaluates the take (R107, R112; log 42). -/
def World.stationReady (e : Env) (w : World) (st : Fin 6) : World :=
  let s := w.stations.get st
  if s.callTo then (w.modStation st (fun s => { s with callTo := false })).sendCall st false
  else
    match s.standby with
    | none => w
    | some c =>
      let w1 := w.modStation st (fun s => { s with standby := some { c with response := .ready } })
      match w.store.elem? c.req.ref with
      | none => w1
      | some (_, el) =>
        let isGate := match w1.nextItem? c.req.lane with
          | some it => decide (it.ref = c.req.ref.item) && el.content.isGating
          | none => false
        if decide ((w1.lane c.req.lane).state = .waiting) && isGate && World.autoDue e w1 c.req.lane then
          World.evalAuto e w1 c.req.lane
        else w1

/-- A HOLD heard from a station (R186). -/
def World.stationHold (e : Env) (w : World) (st : Fin 6) : World :=
  let w1 := match (w.stations.get st).standby with
    | some c => w.modStation st (fun s => { s with standby := some { c with response := .hold } })
    | none => w
  World.latchHold e w1 st

end Sys2Proof.Machine
end

