-- ==== Sys2Proof/Machine/Timing.lean ====
section
/-! DEFINITION. The Timing Engine: the recompute of a lane, the fit plan and its marks, the watch of presenter standbys that
follows a result, and the carrying out of a plan (R72 to R91, R101). -/
namespace Sys2Proof.Machine

/-! ### The computation (R77 to R81) -/

/-- The remaining time on air (R77). -/
def remOnAir (e : Env) : Option Item → Nat
  | none => 0
  | some it =>
    match it.place with
    | .standby => 0
    | .order => it.effPlanned.getD 0 - it.elapsed e

/-- The planned sum of the included items (R78). -/
def plannedSum (items : List Item) : Nat := (items.map (·.planned)).sum

/-- The absorber among the included items (R79). -/
def absorberOf (items : List Item) : Option (Item × Absorber) :=
  items.findSome? (fun it => it.absorber.map (fun a => (it, a)))

/-- An exact value clamped to an absorber's range (R79). -/
def clampTo (a : Absorber) (d : Int) : Nat := (max (a.min : Int) (min (a.max : Int) d)).toNat

/-- The effective duration of an absorber of planned duration `planned`: planned − raw over, clamped, or planned, clamped, without a
hard out (R79). -/
def absorbed (a : Absorber) (planned : Nat) (raw : Option Int) : Nat := clampTo a ((planned : Int) - raw.getD 0)

/-- The effective duration of an included item (R80). -/
def Item.effective (absorber : Option (Nat × Nat)) (it : Item) : Nat :=
  match absorber with
  | some (k, peff) => if it.key = k then peff else it.planned
  | none => it.planned

/-- The distances of the included items, from the first (R80, R81): `front` is the front distance of the head, and `back` its back
distance where the lane has a hard out. -/
def distances (rate : Rate) (t : Nat) (absorber : Option (Nat × Nat)) : Int → Option Int → List Item → List ItemDist
  | _, _, [] => []
  | front, back, it :: rest =>
    { key := it.key, front, frontLabel := rate.label (rate.wrap ((t : Int) + front))
      back := back.map (fun b => (b, rate.label (rate.wrap ((t : Int) + b)))) } ::
    distances rate t absorber (front + it.effective absorber) (back.map (· + it.effective absorber)) rest

/-- Whether an included item with its front distance is a candidate of the fit plan (R84). -/
def isCandidate (next : Option Nat) (absorber : Option (Nat × Nat)) (lockWindow : Nat) (it : Item) (front : Int) : Bool :=
  decide (1 ≤ it.dropPriority) && decide (0 < it.planned) && decide (some it.key ≠ next) &&
    decide (some it.key ≠ absorber.map (·.1)) && decide ((lockWindow : Int) < front)

/-- The candidates in the order they are taken: by drop priority, highest first, and among equals the lower in the lane's order
first (R85). -/
def candidateOrder (items : List Item) : List Item :=
  items.reverse.insertionSort (fun a b => b.dropPriority ≤ a.dropPriority)

/-- The items taken until the running value is 0 or less, and that value (R85). -/
def takeCandidates : Int → List Item → List Nat × Int
  | running, [] => ([], running)
  | running, it :: rest =>
    if running ≤ 0 then ([], running)
    else
      let r := takeCandidates (running - it.planned) rest
      (it.key :: r.1, r.2)

/-- The fit plan and the residual of a lane that is over by `over` (R84, R85). -/
def fitPlan (next : Option Nat) (absorber : Option (Nat × Nat)) (lockWindow : Nat) (items : List Item)
    (dists : List ItemDist) (running : Int) : List Nat × Int :=
  takeCandidates running
    (candidateOrder (((items.zip dists).filter
      (fun x => isCandidate next absorber lockWindow x.1 x.2.front)).map (·.1)))

/-- The timing result of a lane computed from its records, its hard out and the frame (R72, R77 to R85). -/
def computeTiming (e : Env) (habs : Option Fc) (cfg : LaneCfg) (onAir : Option Item) (next : Option Nat)
    (items : List Item) : Timing :=
  let remOn := remOnAir e onAir
  let toHardOut := habs.map (fun h => fcDist e.now h)
  let raw := habs.map (fun h => fcDist h e.now + remOn + plannedSum items)
  let found := absorberOf items
  let absorber := found.map (fun x => (x.1.key, absorbed x.2 x.1.planned raw))
  let stretched : Int := match found with
    | some x => (absorbed x.2 x.1.planned raw : Int) - x.1.planned
    | none => 0
  let overA := raw.map (· + stretched)
  let total : Int := ((items.map (Item.effective absorber)).sum : Nat)
  let dists := distances e.ref.rate e.ref.t absorber remOn (toHardOut.map (· - total)) items
  let planned : Option (List Nat × Int) := match overA with
    | some o => if cfg.fitMode ≠ .off ∧ 0 < o then some (fitPlan next absorber cfg.lockWindow items dists o) else none
    | none => none
  { computedAt := e.now, remOn, rawOver := raw, overA, residual := planned.map (·.2), absorber
    plan := (planned.map (·.1)).getD [], items := dists }

/-- The timing result of a lane as its records stand. -/
def World.laneTiming (e : Env) (w : World) (l : Fin 4) : Timing :=
  let r := w.lane l
  computeTiming e ((e.cfg.hardOuts.get l).map (·.habs)) (e.cfg.lanes.get l) (w.onAirItem? l) r.next
    (w.store.included l r.cursor)

/-! ### After the result (R86, R101) -/

/-- Whether the plan is marked: fit mode ADVISE, or AUTO while a timing substitute is set (R86). -/
def LaneCfg.marks (c : LaneCfg) : Bool :=
  decide (c.fitMode = .advise) || (decide (c.fitMode = .auto) && c.substitute.isSome)

/-- The proposed-drop marks of a lane's order written: set on the items of the plan where it is marked, cleared on every other
item (R86). -/
def Store.mark (s : Store) (l : Fin 4) (plan : List Nat) : Store :=
  { s with items := s.items.map (fun it =>
      if it.lane = l ∧ it.place = .order then { it with proposed := plan.contains it.key } else it) }

/-- One CUE of the NEXT item watched: the distance of an asked one is handed anew, and one that waits is asked when its distance
is at or below its standby lead (R101). A cue that is refused with WRONG_LANE does not join the cue list (R181; log 37). -/
def World.watchCue (e : Env) (l : Fin 4) (front : Int) (w : World) (ref : ElemRef) : World :=
  match w.store.elem? ref with
  | none => w
  | some (it, el) =>
    match el.content with
    | .cue st lead _ =>
      let d := front + el.offset
      if (w.lane l).cueList.contains ref then World.handDistance e w st ref d
      else if decide (el.fire = .waiting) && decide (d ≤ (lead : Int)) then
        let (w1, answer) := World.askStandby e w l st it.key ref it.label d
        match answer with
        | .wrongLane => w1.modElem ref (Element.fail .wrongLane)
        | _ => w1.modLane l (LaneRec.addCue ref)
      else w
    | _ => w

/-- The front distance of an item in a timing result. -/
def Timing.front (t : Timing) (k : Nat) : Int :=
  match t.items.find? (fun d => decide (d.key = k)) with
  | some d => d.front
  | none => t.remOn

/-- The watch of the NEXT item's standbys after a recompute (R101). -/
def World.watch (e : Env) (w : World) (l : Fin 4) : World :=
  match w.nextItem? l with
  | none => w
  | some it => (it.elements.map it.refOf).foldl (World.watchCue e l ((w.timing.get l).front it.key)) w

/-- A recompute of a lane: the result replaced, the marks written, the standbys watched, and the judgements that a timing result
makes due asked for (R72 to R74, R86). -/
def World.recompute (e : Env) (w : World) (l : Fin 4) : World :=
  let t := World.laneTiming e w l
  let w1 := (w.setTiming l t).setStore
    (w.store.mark l (if (e.cfg.lanes.get l).marks then t.plan else []))
  let w2 := World.watch e w1 l
  w2.setDue l { w2.due.get l with recompute := false, result := true }

/-! ### Carrying a plan out (R87) -/

/-- The items of a plan set DROPPED, their marks cleared (R17, R87). -/
def Store.drop (s : Store) (plan : List Nat) : Store :=
  { s with items := s.items.map (fun it =>
      if plan.contains it.key then { it with disposition := .dropped, proposed := false } else it) }

/-- A carry-out event of a lane (R87). -/
def World.carryOut (e : Env) (w : World) (l : Fin 4) : World :=
  let w1 := World.recompute e w l
  let c := e.cfg.lanes.get l
  let plan := (w1.timing.get l).plan
  if c.fitMode = .auto ∧ c.substitute = none ∧ plan ≠ [] then
    let w2 := w1.setStore (w1.store.drop plan)
    World.applyNotice e w2 l (.between w1 w2 l)
  else w1

end Sys2Proof.Machine
end

