-- ==== Sys2Proof/Machine/Monitor.lean ====
section
/-! DEFINITION. The Condition Monitor: OVER and UNDER (R192), the judgements (R194, R195), action levels (R198, R199), and the
settling of an event: what is due is done before the event ends. -/
namespace Sys2Proof.Machine

/-! ### OVER and UNDER (R192) -/

/-- One evaluation of an OVER or UNDER instance with its evaluation count: `value` is the test value, absent without a hard out
and substitute; `t`, `n` and `h` are the threshold, count and hysteresis (R192). -/
def evalInstance (t n h : Nat) (value : Option Int) (i : Inst) (count : Nat) : Inst × Nat :=
  match value with
  | none => ({ i with active := false }, 0)
  | some v =>
    if i.active then
      if v < (t : Int) - h then ({ i with active := false }, 0) else (i, count)
    else if (t : Int) < v then
      if n ≤ count + 1 then (i.judge true, 0) else (i, count + 1)
    else (i, 0)

/-- The over that the conditions of a lane receive: the timing substitute, or the over of the result, clamped (R82, R91, R192). -/
def World.overSeen (e : Env) (w : World) (l : Fin 4) : Option Int :=
  match (e.cfg.lanes.get l).substitute with
  | some s => some s
  | none => (w.timing.get l).overA.map clampDistance

/-- OVER and UNDER of a lane evaluated at a second boundary, with the carry-out event of an active OVER; nothing in IDLE (R87,
R192). The plan is carried out here, before the settling makes a change of the lane's action level known (R88, R198; log 49). -/
def World.evalLane (e : Env) (w : World) (l : Fin 4) : World :=
  if (w.lane l).state = .idle then w
  else
    let m := w.monitor
    let c := e.cfg.thresh.get l
    let seen := World.overSeen e w l
    let o := evalInstance c.overT c.count c.hysteresis seen (m.overI.get l) (m.overCount.get l)
    let u := evalInstance c.underT c.count c.hysteresis (seen.map (fun v => -v)) (m.underI.get l) (m.underCount.get l)
    let w1 := w.setMonitor { m with
      overI := m.overI.set l o.1, overCount := m.overCount.set l o.2
      underI := m.underI.set l u.1, underCount := m.underCount.set l u.2 }
    let w2 := World.notice e .underC (m.underI.get l) u.1 (World.notice e .overC (m.overI.get l) o.1 w1)
    if o.1.active then World.carryOut e w2 l else w2

/-- OVER and UNDER of a lane that stops: inactive, with both evaluation counts at 0 (R192). -/
def World.endOverUnder (w : World) (l : Fin 4) : World :=
  let m := w.monitor
  w.setMonitor { m with
    overI := m.overI.modify l (Inst.judge false), overCount := m.overCount.set l 0
    underI := m.underI.modify l (Inst.judge false), underCount := m.underCount.set l 0 }

/-! ### The judgements (R194, R195) -/

/-- NO_NEXT of a lane (R194). -/
def World.isNoNext (e : Env) (w : World) (l : Fin 4) : Bool :=
  match w.onAirItem? l with
  | none => false
  | some it =>
    decide (it.place = .order) && decide (it.endMode ≠ .manual) && (w.lane l).next.isNone &&
      decide ((w.timing.get l).remOn ≤ (e.cfg.lanes.get l).noNextWarn)

/-- Whether a CLIP of the NEXT item, of front distance `front`, is not ready (R194). -/
def World.clipNotReady (w : World) (front : Int) (el : Element) : Bool :=
  match el.content with
  | .clip d _ =>
    decide (el.fire = .waiting) &&
      (match el.load with
       | .conflict => true
       | .loadFailed => true
       | .loaded => false
       | _ => decide (front + el.offset < ((w.map.get d).preroll : Int)))
  | _ => false

/-- NOT_READY of a lane (R194). -/
def World.isNotReady (w : World) (l : Fin 4) : Bool :=
  match w.nextItem? l with
  | none => false
  | some it => it.elements.any (w.clipNotReady ((w.timing.get l).front it.key))

/-- Whether an element makes PORT_FAULT of its lane active (R195). -/
def World.elemPortFault (w : World) (el : Element) : Bool :=
  (decide (el.fire = .waiting) || decide (el.fire = .queued) ||
    (decide (el.fire = .failed) && decide (el.failReason = some .portFault))) &&
  (match el.content.device? with
   | some d =>
     (w.map.get d).valid &&
       decide ((w.ports.get (w.map.get d).target.port).state ≠ .inService)
   | none => false)

/-- PORT_FAULT of a lane (R195). -/
def World.isPortFault (w : World) (l : Fin 4) : Bool :=
  (w.lane l).heldKeys.any (fun k => match w.item? k with
    | some it => it.elements.any w.elemPortFault
    | none => false)

/-- STATION_LOST of a lane (R195). -/
def World.isStationLost (w : World) (l : Fin 4) : Bool :=
  w.stations.cells.any (fun s => decide (s.lane = some l) && !s.present)

/-- REF_LOST (R195). -/
def Env.isRefLost (e : Env) : Bool := e.ref.enabled && decide (e.ref.state ≠ .locked)

/-- The state conditions of one lane judged, those of a timing result only where one was made, and NOT_READY also where an element of
NEXT changed its load or fire state (R194, R195); what was due is then done. -/
def World.judgeLane (e : Env) (w : World) (l : Fin 4) : World :=
  let m := w.monitor
  let due := w.due.get l
  let noNext := if due.result then (m.noNext.get l).judge (World.isNoNext e w l) else m.noNext.get l
  let notReady := if due.result || due.elements then (m.notReady.get l).judge (w.isNotReady l) else m.notReady.get l
  let portFault := (m.portFault.get l).judge (w.isPortFault l)
  let stationLost := (m.stationLost.get l).judge (w.isStationLost l)
  let w1 := (w.setMonitor { m with
    noNext := m.noNext.set l noNext, notReady := m.notReady.set l notReady
    portFault := m.portFault.set l portFault, stationLost := m.stationLost.set l stationLost }).setDue l
      { due with result := false, elements := false }
  World.notice e .stationLost (m.stationLost.get l) stationLost
    (World.notice e .portFault (m.portFault.get l) portFault
      (World.notice e .notReady (m.notReady.get l) notReady
        (World.notice e .noNext (m.noNext.get l) noNext w1)))

/-- Every state condition but OVER and UNDER judged (R194, R195). -/
def World.judge (e : Env) (w : World) : World :=
  let i := w.monitor.refLost
  let j := i.judge e.isRefLost
  (places 4).foldl (World.judgeLane e) (World.notice e .refLost i j (w.setMonitor { w.monitor with refLost := j }))

/-! ### Action levels (R198, R199) -/

/-- The active states of a lane's seven state conditions, in the order of the condition table. -/
def Monitor.actives (m : Monitor) (l : Fin 4) : List Bool :=
  [(m.overI.get l).active, (m.underI.get l).active, (m.noNext.get l).active, (m.notReady.get l).active,
    (m.portFault.get l).active, (m.stationLost.get l).active, m.refLost.active]

/-- The action level of a lane: the largest configured for its active conditions, 0 when none is active (R198). -/
def formLevel (levels : Tbl 7 Nat) (actives : List Bool) : Nat :=
  (levels.cells.zip actives).foldl (fun n x => if x.2 then max n x.1 else n) 0

/-- SAFE sent to each device of a lane's safe list, in the list's order (R154, R199). -/
def World.sendSafe (e : Env) (w : World) (l : Fin 4) : World :=
  (e.cfg.lanes.get l).safeList.foldl (fun w d =>
    let (w1, r) := World.resolve e w d
    match r with
    | .target t _ => World.submitSafe e w1 t
    | _ => w1) w

/-- A lane's level formed, made known where it differs, and acted on, with the entry to level 3 (R122, R198, R199). -/
def World.applyLevel (e : Env) (formed : Fin 4 → Nat) (w : World) (l : Fin 4) : World :=
  let r := w.lane l
  let n := formed l
  if n = r.actionLevel then w
  else
    let entry := decide (n = 3) && decide (r.state ≠ .idle)
    let w1 := World.setLevel e w l n entry
    if entry then World.sendSafe e w1 l else w1

/-- The levels of the lanes as the judgements stand. -/
def World.levels (e : Env) (w : World) (l : Fin 4) : Nat := formLevel (e.cfg.levels.get l) (w.monitor.actives l)

/-! ### Settling an event -/

/-- One round of settling: loads that firings wait for are completed where they have been answered (R130), the lanes due are
recomputed (R73), the conditions judged and the levels formed (R194 to R199). -/
def World.settleRound (e : Env) (w : World) : World :=
  let w1 := (places 4).foldl (World.finishWaits e) w
  let w2 := (places 4).foldl (fun w l => if (w.due.get l).recompute then World.recompute e w l else w) w1
  let w3 := World.judge e w2
  (places 4).foldl (World.applyLevel e (World.levels e w3)) w3

/-- Whether anything is left to settle. -/
def World.unsettled (e : Env) (w : World) : Bool :=
  (places 4).any (fun l =>
    let d := w.due.get l
    d.recompute || d.result || d.elements || (w.lane l).fireQueue.any w.waitOver ||
      decide (World.levels e w l ≠ (w.lane l).actionLevel))

/-- Rounds of settling until nothing is left, `n + 1` of them at the most. A round is always made, so that every condition is
judged; a further one follows where a round changed an action level, since the lane that acts on it may change what was
judged. -/
def World.settleRounds (e : Env) : Nat → World → World
  | 0, w => World.settleRound e w
  | n + 1, w =>
    let w1 := World.settleRound e w
    if w1.unsettled e || decide (w1.lanes.cells.map (·.actionLevel) ≠ w.lanes.cells.map (·.actionLevel)) then
      World.settleRounds e n w1
    else w1

/-- An event settled: all that its changes make due is done within it (log 9). -/
def World.settle (e : Env) (w : World) : World := World.settleRounds e 64 w

end Sys2Proof.Machine
end

