-- ==== Sys2Proof/Machine/Requests.lean ====
section
/-! DEFINITION. The service of a request: taking it from the queue, the answer of the block that owns it, and the response (R203,
R204), with what the request files share. -/
namespace Sys2Proof.Machine

/-- What a block makes of a request that it does not refuse: a payload with nothing changed; a part in which only what the request
itself writes has changed, with the payload; or a changed part with the payload that reads it once the event has settled (R27,
R204). -/
inductive Answer where
  | same (payload : List Byte)
  | write (d : Dev) (payload : List Byte)
  | done (d : Dev) (reply : Dev → List Byte)

/-- A block's work for a request: the part and the payload, to a refusal or an answer. -/
abbrev Handler := Dev → List Byte → Except Status Answer

/-- A check: refused with a status unless it holds. -/
def want (b : Bool) (st : Status) : Except Status Unit := if b then .ok () else .error st

/-- A thing that must be there: refused with a status where it is not. -/
def need {α : Type} (o : Option α) (st : Status) : Except Status α :=
  match o with
  | some a => .ok a
  | none => .error st

/-- The fields of a payload, refused with BAD_ARG where the bytes do not match them (R204, R210). -/
def fields {α : Type} (r : Reader α) (payload : List Byte) : Except Status α := need (readAll r payload) .badArg

/-- The number of one of `n` things, refused with BAD_ARG above the last. -/
def numbered (n k : Nat) : Except Status (Fin n) := need (place? n k) .badArg

/-- An event that changed the part settled. -/
def Dev.settle (d : Dev) : Dev := { d with world := World.settle d.env d.world }

/-- What a served request leaves: the part, the status and the payload of its response (R204). -/
def finish (d : Dev) : Except Status Answer → Dev × Status × List Byte
  | .error st => (d, st, [])
  | .ok (.same payload) => (d, .ok, payload)
  | .ok (.write d1 payload) => (d1, .ok, payload)
  | .ok (.done d1 reply) => (d1.settle, .ok, reply d1.settle)

/-- The response of a request joins the response queue (R204). -/
def State.respond (s : State) (rest : List Request) (tag : Byte) (x : Dev × Status × List Byte) : State :=
  { s with
    dev := x.1
    ctl := { s.ctl with
      requests := rest
      responses := s.ctl.responses ++ [{ tag, status := BitVec.ofNat 8 x.2.1.code, payload := x.2.2 }] } }

/-- The largest length of a request's payload (R203, R209). -/
def maxRequest : Nat := 60

/-- The service of the request at the head of the queue where it is of the kind `kind` and the response queue has room; otherwise
nothing happens (R204; log 1). -/
def State.serve (kind : Byte) (h : Handler) (s : State) : State :=
  match s.ctl.requests with
  | [] => s
  | r :: rest =>
    if r.kind = kind ∧ s.ctl.responses.length < Config.controlQueueSize then
      s.respond rest r.tag
        (if maxRequest < r.length.toNat then (s.dev, .badArg, []) else finish s.dev (h s.dev r.payload))
    else s

/-- Nothing driven yet by the command in hand. -/
def State.quiet (s : State) : State :=
  { s with dev := { s.dev with world := { s.dev.world with out := .quiet } } }

/-- The ATTN pulse driver: with a pulse pending, none being driven and RESET_N released, a pulse starts and the pending count falls
by one (R206, R208; log 8). -/
def State.drivePulse (s : State) : State :=
  let p := s.dev.world.pulse
  if p.phase = .idle ∧ 0 < p.pending ∧ s.dev.env.cfg.attnMode = .pulse ∧ s.pins.reset = false then
    { s with dev := { s.dev with world := { s.dev.world with pulse := { phase := .asserted, pending := p.pending - 1 } } } }
  else s

/-- The request kinds and their values (R210). -/
def kinds : List Byte :=
  [0x10#8, 0x11#8, 0x12#8, 0x13#8, 0x14#8, 0x15#8, 0x16#8, 0x18#8, 0x19#8, 0x1A#8, 0x1B#8, 0x1C#8, 0x20#8, 0x21#8,
    0x22#8, 0x23#8, 0x30#8, 0x31#8, 0x32#8, 0x33#8, 0x38#8, 0x39#8, 0x40#8, 0x41#8, 0x42#8, 0x43#8, 0x44#8, 0x45#8,
    0x46#8, 0x50#8, 0x51#8, 0x58#8, 0x59#8, 0x5A#8, 0x60#8, 0x61#8, 0x62#8, 0x68#8, 0x69#8, 0x6A#8, 0x70#8]

/-- A command that is no request: its work, begun with nothing driven on the output pins, and the pulse that it makes due (R206). -/
def State.run (f : State → State) (s : State) : Host.Outcome State Fault Refusal := .next (f s.quiet).drivePulse

/-- A request of the kind `kind` served, and the pulse that it makes due. -/
def request (kind : Byte) (h : Handler) (s : State) : Host.Outcome State Fault Refusal :=
  s.run (State.serve kind h)

end Sys2Proof.Machine
end

