-- ==== Sys2Proof/Machine/StoreRequests.lean ====
section
/-! DEFINITION. The requests that create, change, move and remove items and elements (R25 to R46). -/
namespace Sys2Proof.Machine

/-! ### Shared checks and changes -/

/-- A key that names an item: 0 is refused with BAD_ARG (R4). -/
def itemKey (k : Nat) : Except Status Unit := want (decide (k ≠ 0)) .badArg

/-- The item under a key, refused with NOT_FOUND where there is none (R4). -/
def Dev.find (d : Dev) (k : Nat) : Except Status Item := need (d.world.item? k) .notFound

/-- The rev after a request that changes an item (R18). -/
def Item.revised (it : Item) : Item := { it with rev := it.rev + 1 }

/-- The response of a request that changes a single item: its key and its rev (R27), 0 for an item that the settling of the
request's own event has freed (log 34). -/
def revReply (k : Nat) (d : Dev) : List Byte :=
  be 2 k ++ be 1 ((d.world.item? k).elim 0 (·.rev.toNat))

/-- The part with its world changed. -/
def Dev.withWorld (d : Dev) (w : World) : Dev := { d with world := w }

/-- A change notice given to a lane once all of a request's changes are made (R22). -/
def Dev.notice (d : Dev) (l : Fin 4) (n : Notice) : Dev := d.withWorld (World.applyNotice d.env d.world l n)

/-- The records changed to those of `w`, and the notice of one lane given for it, which says whether the request disarmed the lane's
NEXT item (R22, R26). -/
def Dev.edit (d : Dev) (w : World) (l : Fin 4) (disarmed : Bool) : Dev :=
  (d.withWorld w).notice l { Notice.between d.world w l with disarmed }

/-- The records changed to those of `w` by a change to an element of an item, listed for the lane's ON_AIR or NEXT item (R26). -/
def Dev.editElement (d : Dev) (w : World) (it : Item) (c : ElemChange) : Dev :=
  let r := w.lane it.lane
  let n := Notice.between d.world w it.lane
  (d.withWorld w).notice it.lane
    { n with onAir := if r.onAir = some it.key then [c] else [], next := if r.next = some it.key then [c] else [] }

/-- A printable character (R10). -/
def isPrintable (b : Byte) : Bool := decide (0x20#8 ≤ b) && decide (b ≤ 0x7E#8)

/-- An item label given: refused with BAD_ARG for a character outside the printable range (R10). -/
def checkLabel (l : Option (List Byte)) : Except Status Unit :=
  want (match l with
    | some t => t.all isPrintable
    | none => true) .badArg

/-- An absorber field given: refused with BAD_ARG for a minimum above the maximum (R12). -/
def checkAbsorber (a : Option (Nat × Nat)) : Except Status Unit :=
  want (match a with
    | some (lo, hi) => decide (lo ≤ hi)
    | none => true) .badArg

/-- A cycle field given: refused with BAD_ARG for an index above 31 (R13; log 4). -/
def checkCycle (c : Option (Nat × Nat × Nat)) : Except Status Unit :=
  want (match c with
    | some (first, last, _) => decide (first ≤ 31) && decide (last ≤ 31)
    | none => true) .badArg

/-- An absorber field as stored (R12). -/
def storedAbsorber (a : Nat × Nat) : Absorber := { min := clampDuration a.1, max := clampDuration a.2 }

/-- A cycle field as stored (R13). -/
def storedCycle (c : Nat × Nat × Nat) : Cycle :=
  { first := min c.1 c.2.1, last := c.2.1, period := max 1 (clampDuration c.2.2) }

/-- An end mode that may stand with a list of elements: a CLIP names a CLIP element of it (R11). -/
def endModeFits (els : List Element) : EndMode → Bool
  | .clip i =>
    match els[i]? with
    | some el => el.content.isClip
    | none => false
  | _ => true

/-- The absorber field removed from every other item of a lane, their revs increased (R12). -/
def Store.loseAbsorber (s : Store) (l : Fin 4) (k : Nat) : Store :=
  { s with items := s.items.map (fun it =>
      if it.lane = l ∧ it.key ≠ k ∧ it.absorber.isSome then { it.revised with absorber := none } else it) }

/-- An end mode: its value, with the index of the end clip for CLIP (R210; log 4). -/
def readEndMode : Reader EndMode := do
  let m ← readByte
  if m = 0 then pure .manual
  else if m = 1 then pure .timed
  else if m = 2 then do
    let i ← readByte
    pure (.clip i)
  else Reader.fail

/-- An absorber field: minimum and maximum. -/
def readAbsorber : Reader (Nat × Nat) := do
  let lo ← readNat 3
  let hi ← readNat 3
  pure (lo, hi)

/-- A cycle field: first index, last index and period. -/
def readCycle : Reader (Nat × Nat × Nat) := do
  let first ← readByte
  let last ← readByte
  let period ← readNat 3
  pure (first, last, period)

/-! ### INSERT (R28 to R31) -/

/-- Where an INSERT puts its item: before a key (0 for the bottom) or aside as the standby item (R28). -/
inductive Position where
  | before (k : Nat)
  | standby
deriving DecidableEq, Repr

/-- The fields of an INSERT (R28). -/
structure InsertReq where
  key : Nat
  lane : Nat
  position : Position
  label : Option (List Byte)
  planned : Option Nat
  endMode : Option EndMode
  dropPriority : Option Nat
  absorber : Option (Nat × Nat)
  cycle : Option (Nat × Nat × Nat)
  source : Option Nat
deriving DecidableEq, Repr

def readPosition : Reader Position := do
  let f ← readField (readNat 2)
  match f with
  | .absent => Reader.fail
  | .given k => pure (.before k)
  | .word => pure .standby

def readInsert : Reader InsertReq := do
  let key ← readNat 2
  let lane ← readByte
  let position ← readPosition
  let label ← readOption readLabelText
  let planned ← readOption (readNat 3)
  let endMode ← readOption readEndMode
  let dropPriority ← readOption readByte
  let absorber ← readOption readAbsorber
  let cycle ← readOption readCycle
  let source ← readOption (readNat 2)
  pure { key, lane, position, label, planned, endMode, dropPriority, absorber, cycle, source }

/-- The item an INSERT creates (R10, R28, R31). -/
def InsertReq.item (q : InsertReq) (l : Fin 4) (ref : Ref) (els : List Element) : Item :=
  { ref, key := q.key, lane := l
    place := match q.position with
      | .before _ => .order
      | .standby => .standby
    label := q.label.getD [], state := .pending, disposition := .inOrder
    planned := clampDuration (q.planned.getD 0), endMode := q.endMode.getD .manual
    dropPriority := min 7 (q.dropPriority.getD 0), absorber := q.absorber.map storedAbsorber
    cycle := q.cycle.map storedCycle, elements := els, start := none, actual := none, effPlanned := none
    proposed := false, rev := 0 }

/-- Copies of elements on newly allocated records (R31). -/
def copyElements (refs : List Ref) (els : List Element) : List Element :=
  (refs.zip els).map (fun x => Element.create x.1 x.2.content x.2.offset)

/-- An order with keys put immediately above a key, or at the bottom for key 0 (R6). -/
def placeBefore (order : List Nat) (before : Nat) (keys : List Nat) : List Nat :=
  if before = 0 then order ++ keys
  else order.takeWhile (fun k => decide (k ≠ before)) ++ keys ++ order.dropWhile (fun k => decide (k ≠ before))

/-- An item put into the store at the position an INSERT names, on records that leave their pools (R1, R28 to R30). -/
def Store.insert (s : Store) (l : Fin 4) (position : Position) (it : Item) (freeItems freeElements : List Ref) : Store :=
  let s1 := { s with items := s.items ++ [it], freeItems, freeElements }
  match position with
  | .before k => { s1 with orders := s1.orders.set l (placeBefore (s1.orders.get l) k [it.key]) }
  | .standby => { s1 with standbys := s1.standbys.set l (some it.key) }

def insertHandler : Handler := fun d payload => do
  let q ← fields readInsert payload
  let l ← numbered 4 q.lane
  itemKey q.key
  checkLabel q.label
  checkAbsorber q.absorber
  checkCycle q.cycle
  want (decide (q.source ≠ some 0)) .badArg
  let source := q.source.map d.world.item?
  let copied := match source with
    | some (some it) => it.elements
    | _ => []
  want (decide (source = some none) || endModeFits copied (q.endMode.getD .manual)) .badArg
  want (d.world.item? q.key).isNone .duplicate
  let before ← match q.position with
    | .before 0 => .ok none
    | .before k => do
      let it ← d.find k
      .ok (some it)
    | .standby => .ok none
  want (decide (source ≠ some none)) .notFound
  want (match before with
    | some it => decide (it.lane = l) && decide (it.place = .order)
    | none => true) .badArg
  want (!(decide (q.position = .standby) && d.world.hasStandby l)) .busy
  let (itemRefs, freeItems) ← need (allocate d.world.store.freeItems 1) .noRoom
  let (elemRefs, freeElements) ← need (allocate d.world.store.freeElements copied.length) .noRoom
  let ref ← need itemRefs.head? .noRoom
  let it := q.item l ref (copyElements elemRefs copied)
  let s1 := d.world.store.insert l q.position it freeItems freeElements
  let s2 := if it.absorber.isSome then s1.loseAbsorber l it.key else s1
  let w := d.world.setStore s2
  let n := Notice.between d.world w l
  .ok (.done ((d.withWorld w).notice l { n with included := n.included || decide (s2 ≠ s1) }) (revReply q.key))

/-! ### AMEND (R32 to R34) -/

/-- The fields of an AMEND (R32). -/
structure AmendReq where
  key : Nat
  rev : Option Nat
  label : Option (List Byte)
  planned : Option Nat
  endMode : Option EndMode
  dropPriority : Option Nat
  absorber : Field (Nat × Nat)
  cycle : Field (Nat × Nat × Nat)
deriving DecidableEq, Repr

def readAmend : Reader AmendReq := do
  let key ← readNat 2
  let rev ← readOption readByte
  let label ← readOption readLabelText
  let planned ← readOption (readNat 3)
  let endMode ← readOption readEndMode
  let dropPriority ← readOption readByte
  let absorber ← readField readAbsorber
  let cycle ← readField readCycle
  pure { key, rev, label, planned, endMode, dropPriority, absorber, cycle }

/-- The value of a field, where one is given. -/
def Field.value? {α : Type} : Field α → Option α
  | .given a => some a
  | _ => none

/-- A field of a record after a request: kept, set, or removed by CLEAR (R32). -/
def Field.apply {α β : Type} (f : α → β) (held : Option β) : Field α → Option β
  | .absent => held
  | .given a => some (f a)
  | .word => none

/-- The item as an AMEND leaves it, but for its rev; a changed planned duration of the ON_AIR item sets its effective planned, clamped
to its absorber, also for a standby item on air that has one (R12, R16, R32; log 32). -/
def AmendReq.amended (q : AmendReq) (it : Item) : Item :=
  let planned := (q.planned.map clampDuration).getD it.planned
  let effective := if it.state = .onAir ∧ planned ≠ it.planned then
      some (match it.absorber with
        | some a => max a.min (min a.max planned)
        | none => planned)
    else it.effPlanned
  { it with
    label := q.label.getD it.label, planned, effPlanned := effective, endMode := q.endMode.getD it.endMode
    dropPriority := (q.dropPriority.map (min 7)).getD it.dropPriority
    absorber := q.absorber.apply storedAbsorber it.absorber
    cycle := q.cycle.apply storedCycle it.cycle }

def amendHandler : Handler := fun d payload => do
  let q ← fields readAmend payload
  itemKey q.key
  checkLabel q.label
  checkAbsorber q.absorber.value?
  checkCycle q.cycle.value?
  let it ← d.find q.key
  want (endModeFits it.elements (q.endMode.getD .manual)) .badArg
  want (match q.rev with
    | some r => decide (it.rev.toNat = r)
    | none => true) .stale
  want (!(decide (it.state = .onAir) && decide (q.absorber ≠ .absent))) .onAir
  let it1 := q.amended it
  let s := d.world.store
  let s1 := if q.absorber.value?.isSome then s.loseAbsorber it.lane it.key else s
  if it1 = it ∧ s1 = s then .ok (.same (revReply q.key d))
  else
    let s2 := s1.modItem q.key (fun i => if it1 = it then i else it1.revised)
    .ok (.done (d.edit (d.world.setStore s2) it.lane false) (revReply q.key))

/-! ### MOVE (R35 to R37) -/

/-- The fields of a MOVE (R35). -/
structure MoveReq where
  first : Nat
  count : Nat
  lane : Nat
  before : Nat
deriving DecidableEq, Repr

def readMove : Reader MoveReq := do
  let first ← readNat 2
  let count ← readByte
  let lane ← readByte
  let before ← readNat 2
  pure { first, count, lane, before }

/-- A moved item in its target lane (R36): to another lane it loses its proposed mark, and its absorber field where that lane has
an absorber already. -/
def Item.moved (target : Fin 4) (hasAbsorber : Bool) (it : Item) : Item :=
  if it.lane = target then it.revised
  else { it.revised with
    lane := target, proposed := false, absorber := if hasAbsorber then none else it.absorber }

/-- The run of a MOVE carried from its lane's order to its place, its items being of the target lane after it (R36). -/
def Store.move (s : Store) (source target : Fin 4) (run : List Nat) (before : Nat) : Store :=
  let hasAbsorber := s.items.any (fun it =>
    decide (it.lane = target) && it.absorber.isSome && !run.contains it.key)
  let taken := s.orders.modify source (fun o => o.filter (fun k => !run.contains k))
  { s with
    orders := taken.modify target (fun o => placeBefore o before run)
    items := s.items.map (fun it => if run.contains it.key then it.moved target hasAbsorber else it) }

/-- The work of a MOVE, whose notices report the included items changed (R35, R36). Where it goes to another lane, the notice of the lane it leaves is acted on before that of the lane
it reaches (log 35). -/
def moveHandler : Handler := fun d payload => do
  let q ← fields readMove payload
  let target ← numbered 4 q.lane
  itemKey q.first
  let count := max 1 q.count
  let it ← d.find q.first
  let before ← if q.before = 0 then .ok none else do
    let b ← d.find q.before
    .ok (some b)
  want (decide (it.place = .order)) .badArg
  let source := it.lane
  let order := d.world.store.orders.get source
  let run := (order.dropWhile (fun k => decide (k ≠ q.first))).take count
  want (decide (run.length = count)) .badArg
  want (match before with
    | some b => decide (b.lane = target) && decide (b.place = .order) && !run.contains b.key
    | none => true) .badArg
  let items := d.world.store.itemsOf run
  want (!items.any (fun i => decide (i.state = .onAir))) .onAir
  want (!items.any (fun i => decide (i.state = .done))) .wrongState
  want (decide (count ≤ 32)) .limit
  let moved := d.world.store.move source target run q.before
  if moved.orders = d.world.store.orders then .ok (.same (be 1 0))
  else
    let w := d.world
    let isNext := match (w.lane source).next with
      | some k => run.contains k
      | none => false
    let w1 := if isNext then World.disarm d.env w source else w
    let w2 := match (w1.lane source).cursor with
      | some c => if run.contains c then w1.modLane source (fun r => { r with cursor := above? order q.first }) else w1
      | none => w1
    let w3 := w2.setStore (w2.store.move source target run q.before)
    let d1 := (d.withWorld w3).notice source { Notice.between w w3 source with included := true, disarmed := isNext }
    let d2 := if source = target then d1 else d1.notice target { Notice.between w w3 target with included := true }
    .ok (.done d2 (fun _ => be 1 count))

/-! ### FLOAT and RESTORE (R38, R39) -/

def floatHandler : Handler := fun d payload => do
  let k ← fields (readNat 2) payload
  itemKey k
  let it ← d.find k
  want (!(decide (it.place = .order) && decide (it.state = .onAir))) .onAir
  want (decide (it.place = .order)) .wrongState
  if it.disposition = .floated then .ok (.same (revReply k d))
  else
    let isNext := decide ((d.world.lane it.lane).next = some k)
    let w := if isNext then World.disarm d.env d.world it.lane else d.world
    let w1 := w.modItem k (fun i => { i.revised with disposition := .floated, proposed := false })
    .ok (.done (d.edit w1 it.lane isNext) (revReply k))

def restoreHandler : Handler := fun d payload => do
  let k ← fields (readNat 2) payload
  itemKey k
  let it ← d.find k
  if it.disposition = .inOrder then .ok (.same (revReply k d))
  else
    let w := d.world.modItem k (fun i => { i.revised with disposition := .inOrder })
    .ok (.done (d.edit w it.lane false) (revReply k))

/-! ### KILL and RETIRE (R40, R41) -/

def killHandler : Handler := fun d payload => do
  let k ← fields (readNat 2) payload
  itemKey k
  let it ← d.find k
  want (decide (it.state ≠ .onAir)) .onAir
  let isNext := decide ((d.world.lane it.lane).next = some k)
  let w := if isNext then World.disarm d.env d.world it.lane else d.world
  .ok (.done (d.edit (w.freeItem k) it.lane isNext) (fun _ => be 2 it.elements.length))

/-- The fields of a request that names a lane and a key of its order. -/
def readLaneKey : Reader (Nat × Nat) := do
  let lane ← readByte
  let key ← readNat 2
  pure (lane, key)

/-- A key that names a place in a lane's order, 0 standing for its end: refused with NOT_FOUND where absent and with BAD_ARG where
it is another lane's or a standby item's. -/
def Dev.checkPlace (d : Dev) (l : Fin 4) (k : Nat) : Except Status Unit :=
  if k = 0 then .ok ()
  else do
    let it ← d.find k
    want (decide (it.lane = l) && decide (it.place = .order)) .badArg

def retireHandler : Handler := fun d payload => do
  let (lane, upTo) ← fields readLaneKey payload
  let l ← numbered 4 lane
  d.checkPlace l upTo
  let order := d.world.store.orders.get l
  let walked := if upTo = 0 then order
    else order.takeWhile (fun k => decide (k ≠ upTo)) ++ [upTo]
  let done := (d.world.store.itemsOf walked).filter (fun it => decide (it.state = .done))
  let count := be 2 done.length ++ be 2 (done.map (·.elements.length)).sum
  if done = [] then .ok (.same count)
  else
    let w := (done.map (·.key)).foldl (fun w k => w.freeItem k) d.world
    .ok (.done (d.edit w l false) (fun _ => count))

/-! ### Element fields (R20) -/

/-- The content fields of an element as a request gives them (R20, R42, R43; log 4). -/
structure ElemReq where
  kind : Option Nat
  device : Option Nat
  station : Option Nat
  offset : Option Nat
  clipId : Option Nat
  template : Option Nat
  dataRef : Option Nat
  lead : Option Nat
  gating : Option Bool
deriving DecidableEq, Repr

def readElem : Reader ElemReq := do
  let kind ← readOption readByte
  let device ← readOption readByte
  let station ← readOption readByte
  let offset ← readOption (readNat 3)
  let clipId ← readOption (readNat 4)
  let template ← readOption (readNat 2)
  let dataRef ← readOption (readNat 4)
  let lead ← readOption (readNat 2)
  let gating ← readOption readFlag
  pure { kind, device, station, offset, clipId, template, dataRef, lead, gating }

/-- The fields that are refused whatever the element: a kind, device or station out of range (R20, R25). -/
def ElemReq.inRange (q : ElemReq) : Bool :=
  decide (q.kind.getD 0 < 5) && decide (q.device.getD 0 < 64) && decide (q.station.getD 0 < 6)

/-- The clip id an element has, 0 where its kind has none. -/
def Content.clipId : Content → BitVec 32
  | .clip _ c => c
  | _ => 0

/-- The template an element has, 0 where its kind has none. -/
def Content.template : Content → BitVec 16
  | .gfxIn _ t _ => t
  | .gfxOut _ t => t
  | _ => 0

/-- The data ref an element has, 0 where its kind has none. -/
def Content.dataRef : Content → BitVec 32
  | .gfxIn _ _ r => r
  | _ => 0

/-- The content of an element from the fields a request gives, over the content it had: a field not given keeps its value where the
kind stays, and takes 0 where the kind changes. None for a device or station that there is not, and for gating set on another
kind than CUE (R20, R43). -/
def ElemReq.content (q : ElemReq) (was : Content) : Option Content :=
  let old := if q.kind.getD was.kindCode = was.kindCode then was else .clip 0 0
  let device : Option (Fin 64) := match q.device with
    | some n => place? 64 n
    | none => some (old.device?.getD 0)
  let station : Option (Fin 6) := match q.station with
    | some n => place? 6 n
    | none => some (old.station?.getD 0)
  let clipId := (q.clipId.map (BitVec.ofNat 32)).getD old.clipId
  let template := (q.template.map (BitVec.ofNat 16)).getD old.template
  let dataRef := (q.dataRef.map (BitVec.ofNat 32)).getD old.dataRef
  let plain := decide (q.gating ≠ some true)
  match q.kind.getD was.kindCode with
  | 0 => if plain then device.map (fun x => .clip x clipId) else none
  | 1 => if plain then device.map .clipStop else none
  | 2 => if plain then device.map (fun x => .gfxIn x template dataRef) else none
  | 3 => if plain then device.map (fun x => .gfxOut x template) else none
  | 4 => station.map (fun x => .cue x (q.lead.getD old.lead) (q.gating.getD old.isGating))
  | _ => none

/-- The content and offset of a new element (R20). -/
def ElemReq.create (q : ElemReq) : Option (Content × Nat) :=
  (q.content (.clip 0 0)).map (fun c => (c, clampDuration (q.offset.getD 0)))

/-- A gating element has offset 0 (R20). -/
def gatingFits (c : Content) (offset : Nat) : Bool := !c.isGating || decide (offset = 0)

/-! ### ADDEL (R42) -/

def readAddel : Reader (Nat × Nat × ElemReq) := do
  let key ← readNat 2
  let index ← readByte
  let q ← readElem
  pure (key, index, q)

/-- An item with an element inserted at an index: its end clip and cycle follow their elements (R11, R13, R19). -/
def Item.addElement (i : Nat) (el : Element) (it : Item) : Item :=
  { it.revised with
    elements := insertAt it.elements i el, endMode := EndMode.inserted i it.endMode
    cycle := it.cycle.bind (Cycle.inserted i) }

def addelHandler : Handler := fun d payload => do
  let (k, index, q) ← fields readAddel payload
  itemKey k
  want q.inRange .badArg
  let (content, offset) ← need q.create .badArg
  want (gatingFits content offset) .badArg
  let it ← d.find k
  want (!(content.isGating && it.gating?.isSome)) .badArg
  want (decide (index ≤ it.elements.length)) .badArg
  want (decide (it.elements.length < Config.maxElements)) .limit
  let (refs, freeElements) ← need (allocate d.world.store.freeElements 1) .noRoom
  let ref ← need refs.head? .noRoom
  let el := Element.create ref content offset
  let s := { d.world.store with freeElements }
  let w := d.world.setStore (s.modItem k (Item.addElement index el))
  .ok (.done (d.editElement w it (.added (it.refOf el))) (revReply k))

/-! ### SETEL (R43) -/

/-- The content but for the standby lead, whose change is a re-timing (R26). -/
def Content.untimed : Content → Content
  | .cue st _ g => .cue st 0 g
  | c => c

/-- An element with new content and offset; one that is no longer a CLIP has no load state (R20, R21). The load list is the
sequencer's and is not touched here (R138; log 56). -/
def Element.rewritten (c : Content) (offset : Nat) (el : Element) : Element :=
  let el1 := { el with content := c, offset }
  if el.content.isClip && !c.isClip then el1.unload else el1

/-- An item with an element changed; an end clip that is no longer a CLIP makes the end mode MANUAL (R11, R43). -/
def Item.setElement (index : Nat) (ref : Ref) (c : Content) (offset : Nat) (it : Item) : Item :=
  { it.revised with
    elements := modElems it.elements ref (Element.rewritten c offset)
    endMode := if it.endMode.index? = some index ∧ c.isClip = false then .manual else it.endMode }

def setelHandler : Handler := fun d payload => do
  let (k, index, q) ← fields readAddel payload
  itemKey k
  want q.inRange .badArg
  let it ← d.find k
  let el ← need it.elements[index]? .notFound
  let content ← need (q.content el.content) .badArg
  let offset := (q.offset.map clampDuration).getD el.offset
  want (gatingFits content offset) .badArg
  let other := match it.gating? with
    | some x => decide (x.ref ≠ el.ref)
    | none => false
  want (!(content.isGating && other)) .badArg
  want (!(decide (it.state = .onAir) && decide (el.fire = .sent))) .onAir
  if content = el.content ∧ offset = el.offset then .ok (.same (revReply k d))
  else
    let c := if content.untimed = el.content.untimed then ElemChange.retimed (it.refOf el)
      else ElemChange.retargeted (it.refOf el) el
    let w := d.world.modItem k (Item.setElement index el.ref content offset)
    .ok (.done (d.editElement w it c) (revReply k))

/-! ### DELEL (R44) -/

def readDelel : Reader (Nat × Nat) := do
  let key ← readNat 2
  let index ← readByte
  pure (key, index)

/-- An item without the element at an index (R11, R13, R19). -/
def Item.deleteElement (i : Nat) (it : Item) : Item :=
  { it.revised with
    elements := it.elements.eraseIdx i, endMode := EndMode.deleted i it.endMode
    cycle := it.cycle.bind (Cycle.deleted i) }

def delelHandler : Handler := fun d payload => do
  let (k, index) ← fields readDelel payload
  itemKey k
  let it ← d.find k
  let el ← need it.elements[index]? .notFound
  let ref := it.refOf el
  let w := d.world.forgetRoll ref
  let s := w.store.modItem k (Item.deleteElement index)
  let w1 := w.setStore { s with freeElements := s.freeElements ++ [el.ref] }
  .ok (.done (d.editElement w1 it (.removed ref el index)) (revReply k))

/-! ### STAMP (R45, R46) -/

/-- The fields of a STAMP (R45). -/
structure StampReq where
  lane : Nat
  start : Nat
  count : Nat
  stride : Nat
  elem : ElemReq
deriving DecidableEq, Repr

def readStamp : Reader StampReq := do
  let lane ← readByte
  let start ← readNat 2
  let count ← readByte
  let stride ← readByte
  let elem ← readElem
  pure { lane, start, count, stride, elem }

/-- Every `n`-th of a list from its first (R45); the second argument counts down to the next one chosen. -/
def everyNth {α : Type} (n : Nat) : Nat → List α → List α
  | _, [] => []
  | 0, a :: rest => a :: everyNth n (n - 1) rest
  | m + 1, _ :: rest => everyNth n m rest

/-- Elements given to the items of a list, one each, at the end of their lists (R45). -/
def Store.stamp (s : Store) (c : Content) (offset : Nat) : List (Item × Ref) → Store
  | [] => s
  | (it, ref) :: rest =>
    (s.modItem it.key (fun i =>
      { i.revised with elements := i.elements ++ [Element.create ref c offset] })).stamp c offset rest

/-- The work of a STAMP (R45, R46). A chosen item that is both full and gating already is counted as full alone (log 33). -/
def stampHandler : Handler := fun d payload => do
  let q ← fields readStamp payload
  let l ← numbered 4 q.lane
  let count := max 1 q.count
  let stride := min 8 (max 1 q.stride)
  want q.elem.inRange .badArg
  let (content, offset) ← need q.elem.create .badArg
  want (gatingFits content offset) .badArg
  d.checkPlace l q.start
  want (decide (count ≤ 32)) .limit
  let s := d.world.store
  let order := s.orders.get l
  let run := (if q.start = 0 then order else order.dropWhile (fun k => decide (k ≠ q.start))).take count
  let chosen := everyNth stride 0 ((s.itemsOf run).filter Item.livePending)
  let full := chosen.filter (fun it => decide (Config.maxElements ≤ it.elements.length))
  let open' := chosen.filter (fun it => decide (it.elements.length < Config.maxElements))
  let gated := open'.filter (fun it => content.isGating && it.gating?.isSome)
  let given := open'.filter (fun it => !(content.isGating && it.gating?.isSome))
  let (refs, freeElements) ← need (allocate s.freeElements given.length) .noRoom
  let counts := be 1 run.length ++ be 1 chosen.length ++ be 1 given.length ++ be 1 full.length ++ be 1 gated.length
  if given = [] then .ok (.same counts)
  else
    let stamped := given.zip refs
    let s1 := Store.stamp { s with freeElements } content offset stamped
    let next := (stamped.filter (fun x => decide ((d.world.lane l).next = some x.1.key))).map
      (fun x => ElemChange.added ⟨x.1.ref, x.2⟩)
    let w := d.world.setStore s1
    .ok (.done ((d.withWorld w).notice l { Notice.between d.world w l with next }) (fun _ => counts))

/-! ### The commands -/

/-- INSERT: creates an item (R28). -/
def execInsert (s : State) : Host.Outcome State Fault Refusal := request 0x10#8 insertHandler s

/-- AMEND: changes content fields of an item (R32). -/
def execAmend (s : State) : Host.Outcome State Fault Refusal := request 0x11#8 amendHandler s

/-- MOVE: carries a run of items to another place (R35). -/
def execMove (s : State) : Host.Outcome State Fault Refusal := request 0x12#8 moveHandler s

/-- FLOAT: pulls an item from the programme (R38). -/
def execFloat (s : State) : Host.Outcome State Fault Refusal := request 0x13#8 floatHandler s

/-- RESTORE: returns an item to the programme (R39). -/
def execRestore (s : State) : Host.Outcome State Fault Refusal := request 0x14#8 restoreHandler s

/-- KILL: frees an item (R40). -/
def execKill (s : State) : Host.Outcome State Fault Refusal := request 0x15#8 killHandler s

/-- RETIRE: frees DONE items (R41). -/
def execRetire (s : State) : Host.Outcome State Fault Refusal := request 0x16#8 retireHandler s

/-- ADDEL: adds an element (R42). -/
def execAddel (s : State) : Host.Outcome State Fault Refusal := request 0x18#8 addelHandler s

/-- SETEL: changes an element (R43). -/
def execSetel (s : State) : Host.Outcome State Fault Refusal := request 0x19#8 setelHandler s

/-- DELEL: removes an element (R44). -/
def execDelel (s : State) : Host.Outcome State Fault Refusal := request 0x1A#8 delelHandler s

/-- STAMP: adds one element to many items (R45). -/
def execStamp (s : State) : Host.Outcome State Fault Refusal := request 0x1B#8 stampHandler s

end Sys2Proof.Machine
end

