-- ==== Sys2Proof/Machine/Lookups.lean ====
section
/-! DEFINITION. SCAN and the lookups GETITEM, GETEL, LIST and TIMING: they read the records and change nothing (R47 to R52). -/
namespace Sys2Proof.Machine

/-! ### SCAN (R47, R48) -/

/-- A property that SCAN tests, with its argument (R48). -/
inductive Property where
  | floated
  | dropped
  | done
  | passed
  | proposed
  | priority (k : Nat)
  | device (d : Fin 64)
  | failed
deriving DecidableEq, Repr

/-- Whether an item has a property (R48). -/
def Property.holds (s : Store) (cursor : Option Nat) (it : Item) : Property → Bool
  | .floated => decide (it.disposition = .floated)
  | .dropped => decide (it.disposition = .dropped)
  | .done => decide (it.state = .done)
  | .passed => s.passed cursor it
  | .proposed => it.proposed
  | .priority k => decide (k ≤ it.dropPriority)
  | .device d => it.elements.any (fun el => decide (el.content.device? = some d))
  | .failed => decide (1 ≤ it.failed)

/-- A property and its argument, which PRIORITY and DEVICE have (R48; log 4). -/
def readProperty : Reader Property := do
  let p ← readByte
  match p with
  | 0 => pure .floated
  | 1 => pure .dropped
  | 2 => pure .done
  | 3 => pure .passed
  | 4 => pure .proposed
  | 5 => do
    let k ← readByte
    if k ≤ 7 then pure (.priority k) else Reader.fail
  | 6 => do
    let n ← readByte
    match place? 64 n with
    | some x => pure (.device x)
    | none => Reader.fail
  | 7 => pure .failed
  | _ => Reader.fail

/-- The fields of a SCAN (R47). -/
structure ScanReq where
  lane : Nat
  start : Nat
  property : Property
  lack : Bool
  maximum : Nat
deriving DecidableEq, Repr

def readScan : Reader ScanReq := do
  let lane ← readByte
  let start ← readNat 2
  let property ← readProperty
  let lack ← readFlag
  let maximum ← readNat 2
  pure { lane, start, property, lack, maximum }

/-- Why a SCAN stops, by its value (R47, R210). -/
inductive ScanStop where
  | found
  | limit
  | bottom
deriving DecidableEq, Repr

def ScanStop.code : ScanStop → Nat
  | .found => 0
  | .limit => 1
  | .bottom => 2

/-- The walk of a SCAN: the items counted, the stopping key and the reason (R47). `room` is what is left of the maximum. -/
def scanWalk (meets : Item → Bool) : Nat → List Item → Nat × Nat × ScanStop
  | 0, [] => (0, 0, .limit)
  | 0, it :: _ => (0, it.key, .limit)
  | _ + 1, [] => (0, 0, .bottom)
  | room + 1, it :: rest =>
    if meets it then
      let r := scanWalk meets room rest
      (r.1 + 1, r.2)
    else (0, it.key, .found)

/-- The part of an order from a key down, all of it for key 0. -/
def fromKey (order : List Nat) (k : Nat) : List Nat :=
  if k = 0 then order else order.dropWhile (fun x => decide (x ≠ k))

def scanHandler : Handler := fun d payload => do
  let q ← fields readScan payload
  let l ← numbered 4 q.lane
  d.checkPlace l q.start
  let s := d.world.store
  let cursor := (d.world.lane l).cursor
  let meets := fun it => q.property.holds s cursor it != q.lack
  let (run, stop, reason) :=
    scanWalk meets (min 512 (max 1 q.maximum)) (s.itemsOf (fromKey (s.orders.get l) q.start))
  .ok (.same (be 2 run ++ be 2 stop ++ be 1 reason.code))

/-! ### GETITEM (R49) -/

/-- Whether an item is passed, included or neither, by its value (R49; log 4). -/
def Dev.standing (d : Dev) (it : Item) : Nat :=
  let cursor := (d.world.lane it.lane).cursor
  if d.world.store.passed cursor it then 0 else if d.world.store.isIncluded cursor it then 1 else 2

/-- The time on air that lookups report (R49). -/
def Item.timeOnAir (e : Env) (it : Item) : Option Nat :=
  match it.state with
  | .done => it.actual
  | .onAir => some (it.elapsed e)
  | _ => none

/-- An end mode in a response (R210; log 4). -/
def endModeBytes (m : EndMode) : List Byte :=
  be 1 m.code ++ (match m.index? with
    | some i => be 1 i
    | none => [])

/-- The record of an item as GETITEM reports it (R49). -/
def Dev.itemBytes (d : Dev) (it : Item) : List Byte :=
  be 2 it.key ++ be 1 it.lane.val ++ be 1 it.place.code ++ textBytes it.label ++ be 1 it.state.code ++
  be 1 it.disposition.code ++ be 1 (d.standing it) ++ duration it.planned ++ endModeBytes it.endMode ++
  be 1 it.dropPriority ++ optional (fun a => duration a.min ++ duration a.max) it.absorber ++
  optional (fun c => be 1 c.first ++ be 1 c.last ++ duration c.period) it.cycle ++ be 1 it.elements.length ++
  optional (fun st => be 4 st.fs.toNat ++ labelBytes st.label) it.start ++
  optional duration (it.timeOnAir d.env) ++ optional duration it.effPlanned ++ be 1 it.failed ++ flag it.proposed ++
  be 1 it.rev.toNat

def getitemHandler : Handler := fun d payload => do
  let k ← fields (readNat 2) payload
  itemKey k
  let it ← d.find k
  .ok (.same (d.itemBytes it))

/-! ### GETEL (R50) -/

/-- The content fields that an element's kind has, with its offset, in the order of the element record (R20, R50). -/
def contentBytes (offset : Nat) : Content → List Byte
  | .clip dev clip => be 1 dev.val ++ duration offset ++ be 4 clip.toNat
  | .clipStop dev => be 1 dev.val ++ duration offset
  | .gfxIn dev tmpl dat => be 1 dev.val ++ duration offset ++ be 2 tmpl.toNat ++ be 4 dat.toNat
  | .gfxOut dev tmpl => be 1 dev.val ++ duration offset ++ be 2 tmpl.toNat
  | .cue st lead g => be 1 st.val ++ duration offset ++ be 2 lead ++ flag g

/-- Whether the element at an index is the end clip of its lane's ON_AIR item (R50). -/
def Item.isEndClip (it : Item) (index : Nat) : Bool :=
  decide (it.state = .onAir) && decide (it.endMode.index? = some index)

/-- The record of an element as GETEL reports it (R50). Its load failure is not among the fields that R50 lists and is reported by no
response (R210; log 51). -/
def elementBytes (it : Item) (index : Nat) (el : Element) : List Byte :=
  be 1 index ++ be 1 el.content.kindCode ++ contentBytes el.offset el.content ++ be 1 el.fire.code ++
  (if el.content.isClip then be 1 el.load.code else []) ++ optional (fun r => be 1 r.code) el.failReason ++
  flag el.late ++ be 1 (min 255 el.pass.toNat) ++ flag (it.isEndClip index)

def getelHandler : Handler := fun d payload => do
  let (k, index) ← fields readDelel payload
  itemKey k
  let it ← d.find k
  let el ← need it.elements[index]? .notFound
  .ok (.same (elementBytes it index el))

/-! ### LIST (R51) -/

/-- One entry of a LIST (R51). -/
def Dev.listEntry (d : Dev) (l : Fin 4) (it : Item) : List Byte :=
  be 2 it.key ++ be 1 it.state.code ++ be 1 it.disposition.code ++
  flag (d.world.store.passed (d.world.lane l).cursor it)

def listHandler : Handler := fun d payload => do
  let (lane, start) ← fields readLaneKey payload
  let l ← numbered 4 lane
  d.checkPlace l start
  let s := d.world.store
  let r := d.world.lane l
  let order := s.orders.get l
  let keys := fromKey order start
  .ok (.same (listBytes (d.listEntry l) ((s.itemsOf keys).take 16) ++ keyBytes (keys.drop 16).head? ++
    be 2 order.length ++ keyBytes r.cursor ++ keyBytes r.onAir ++ keyBytes r.next ++ keyBytes (s.standbys.get l) ++
    be 1 r.state.code ++ be 2 s.freeItems.length ++ be 2 s.freeElements.length))

/-! ### TIMING (R8, R52) -/

/-- One item entry of a TIMING (R52). -/
def Dev.timingEntry (d : Dev) (x : ItemDist) : List Byte :=
  be 2 x.key ++ signed x.front ++ labelBytes x.frontLabel ++ optional signed (x.back.map (·.1)) ++
  optional labelBytes (x.back.map (·.2)) ++ flag ((d.world.item? x.key).elim false (·.proposed))

def timingHandler : Handler := fun d payload => do
  let (lane, start) ← fields readLaneKey payload
  let l ← numbered 4 lane
  d.checkPlace l start
  let t := d.world.timing.get l
  let c := d.env.cfg.lanes.get l
  let below := fromKey (d.world.store.orders.get l) start
  let entries := (t.items.filter (fun x => below.contains x.key)).take 8
  .ok (.same (be 4 t.computedAt.toNat ++ optional signed t.overA ++ optional signed t.rawOver ++
    optional signed t.residual ++ optional (fun a => be 2 a.1 ++ duration a.2) t.absorber ++ be 1 c.fitMode.code ++
    flag c.substitute.isSome ++ optional labelBytes ((d.env.cfg.hardOuts.get l).map (·.label)) ++
    listBytes d.timingEntry entries ++ keyBytes (d.world.lane l).cursor))

/-! ### The commands -/

/-- SCAN: counts items that share a property (R47). -/
def execScan (s : State) : Host.Outcome State Fault Refusal := request 0x1C#8 scanHandler s

/-- GETITEM: returns an item (R49). -/
def execGetitem (s : State) : Host.Outcome State Fault Refusal := request 0x20#8 getitemHandler s

/-- GETEL: returns an element (R50). -/
def execGetel (s : State) : Host.Outcome State Fault Refusal := request 0x21#8 getelHandler s

/-- LIST: returns a stretch of an order (R51). -/
def execList (s : State) : Host.Outcome State Fault Refusal := request 0x22#8 listHandler s

/-- TIMING: returns a timing result, with the cursor position at its end (R8, R52; log 4). -/
def execTiming (s : State) : Host.Outcome State Fault Refusal := request 0x23#8 timingHandler s

end Sys2Proof.Machine
end

