-- ==== Sys2Proof/Machine/ClockRequests.lean ====
section
/-! DEFINITION. The requests of the Reference Unit and the Timing Engine: RATE, REFCFG, CLOCKSET, CLOCKREAD (R61, R67 to R69),
HARDOUT and SUBST (R75, R76, R90). -/
namespace Sys2Proof.Machine

/-! ### The parts of the environment -/

/-- The part with its Reference Unit changed. -/
def Dev.withRef (d : Dev) (r : RefUnit) : Dev := { d with env := { d.env with ref := r } }

/-- The part with its settings changed. -/
def Dev.withCfg (d : Dev) (c : Settings) : Dev := { d with env := { d.env with cfg := c } }

/-- A lane of the part recomputed before the event ends (R73). -/
def Dev.askRecompute (d : Dev) (l : Fin 4) : Dev := d.withWorld (d.world.askRecompute l)

/-- The settings with a lane's hard out. -/
def Settings.setHardOut (c : Settings) (l : Fin 4) (h : Option HardOut) : Settings :=
  { c with hardOuts := c.hardOuts.set l h }

/-- The settings with a lane's configuration. -/
def Settings.setLaneCfg (c : Settings) (l : Fin 4) (x : LaneCfg) : Settings := { c with lanes := c.lanes.set l x }

/-- Every lane that has a hard out is recomputed before the event ends (R73, R76). -/
def Dev.askHardOuts (d : Dev) : Dev :=
  (places 4).foldl (fun d l => if (d.env.cfg.hardOuts.get l).isSome then d.askRecompute l else d) d

/-! ### HARDOUT (R75) -/

/-- A hard out resolved to the next occurrence of its label at or after now (R75). -/
def resolveHardOut (r : RefUnit) (label : Label) : HardOut :=
  { label, habs := r.fc + BitVec.ofNat 32 (r.rate.wrap ((r.rate.countOf label : Int) - r.t)) }

/-- The fields of a request that names a lane and a value or CLEAR. -/
def readLaneField {α : Type} (f : Reader α) : Reader (Nat × Field α) := do
  let lane ← readByte
  let x ← readField f
  pure (lane, x)

/-- The hard out as HARDOUT reports it: Habs, label and distance, each absent after CLEAR (R75; log 4). -/
def hardOutBytes (e : Env) (h : Option HardOut) : List Byte :=
  optional (fun x => be 4 x.toNat) (h.map (·.habs)) ++ optional labelBytes (h.map (·.label)) ++
  optional signed (h.map (fun x => fcDist e.now x.habs))

def hardoutHandler : Handler := fun d payload => do
  let (lane, x) ← fields (readLaneField readLabel) payload
  let l ← numbered 4 lane
  let rate := d.env.ref.rate
  let h ← match x with
    | .absent => .error .badArg
    | .word => .ok none
    | .given label => do
      want (rate.reads label) .badArg
      .ok (some (resolveHardOut d.env.ref (rate.clampLabel label)))
  let d1 := (d.withCfg (d.env.cfg.setHardOut l h)).askRecompute l
  .ok (.done d1 (fun d => hardOutBytes d.env (d.env.cfg.hardOuts.get l)))

/-! ### SUBST (R90) -/

def substHandler : Handler := fun d payload => do
  let (lane, x) ← fields (readLaneField readSigned) payload
  let l ← numbered 4 lane
  let sub ← match x with
    | .absent => .error .badArg
    | .word => .ok none
    | .given v => .ok (some (clampDistance v))
  let c := { d.env.cfg.lanes.get l with substitute := sub }
  let d1 := (d.withCfg (d.env.cfg.setLaneCfg l c)).askRecompute l
  .ok (.done d1 (fun d => optional signed (d.env.cfg.lanes.get l).substitute))

/-! ### RATE (R61) -/

/-- The Reference Unit as a RATE leaves it (R55, R61). -/
def RefUnit.toRate (r : RefUnit) (rate : Rate) : RefUnit :=
  { r with
    rate, t := rate.countOf (convertLabel r.rate rate (r.rate.label r.t)), state := .freeRun, acquired := 0,
    mismatch := 0, missingTimer := false, internal := some .rateChange }

/-- Every hard out carried to a new rate: its label converted and resolved afresh (R61, R76). -/
def Settings.toRate (c : Settings) (old : Rate) (r : RefUnit) : Settings :=
  { c with hardOuts := c.hardOuts.map (fun h => h.map (fun x => resolveHardOut r (convertLabel old r.rate x.label))) }

def rateHandler : Handler := fun d payload => do
  let n ← fields readByte payload
  let rate ← need (rate? n) .badArg
  want ((places 4).all (fun l => decide ((d.world.lane l).state = .idle))) .busy
  if rate = d.env.ref.rate then .ok (.same [])
  else
    let r := d.env.ref.toRate rate
    .ok (.done ((d.withRef r).withCfg (d.env.cfg.toRate d.env.ref.rate r)).askHardOuts (fun _ => []))

/-! ### REFCFG (R67) -/

/-- The fields of a REFCFG (R67). -/
structure RefcfgReq where
  enable : Bool
  check : Bool
  slipCount : Nat
deriving DecidableEq, Repr

def readRefcfg : Reader RefcfgReq := do
  let enable ← readFlag
  let check ← readFlag
  let slipCount ← readByte
  pure { enable, check, slipCount }

/-- The reference disabled: FREE_RUN, the missing-pulse timer stopped, the internal source running (R55, R57). -/
def RefUnit.disable (r : RefUnit) : RefUnit :=
  { r with
    enabled := false, state := .freeRun, acquired := 0, missingTimer := false
    mismatch := if r.state = .locked then 0 else r.mismatch
    internal := if r.state = .locked then some .lastAcceptedPulse else r.internal }

/-- The Reference Unit as a REFCFG leaves it (R57, R65, R67). -/
def RefUnit.configure (r : RefUnit) (q : RefcfgReq) : RefUnit :=
  let r1 := if r.enabled && !q.enable then r.disable else { r with enabled := q.enable }
  { r1 with
    labelCheck := q.check, slipCount := max 1 (min 15 q.slipCount)
    mismatch := if q.check = r.labelCheck then r1.mismatch else 0 }

def refcfgHandler : Handler := fun d payload => do
  let q ← fields readRefcfg payload
  .ok (.done (d.withRef (d.env.ref.configure q)) (fun _ => []))

/-! ### CLOCKSET and CLOCKREAD (R68, R69) -/

def clocksetHandler : Handler := fun d payload => do
  let label ← fields readLabel payload
  let r := d.env.ref
  want (r.rate.reads label) .badArg
  .ok (.write (d.withRef { r with pendingLabel := some (r.rate.clampLabel label) }) [])

/-- No fields. -/
def readNone : Reader Unit := pure ()

/-- The snapshot that CLOCKREAD returns (R69; log 4). -/
def clockBytes (r : RefUnit) : List Byte :=
  be 3 r.t ++ labelBytes (r.rate.label r.t) ++ be 4 r.fc.toNat ++ be 1 r.rate.code ++ be 1 r.state.code ++
  be 1 r.acquired ++ flag r.enabled ++ flag r.labelCheck ++ be 1 r.slipCount ++ be 1 r.mismatch ++
  flag r.pendingLabel.isSome ++ optional labelBytes r.pendingLabel

def clockreadHandler : Handler := fun d payload => do
  fields readNone payload
  .ok (.same (clockBytes d.env.ref))

/-! ### The commands -/

/-- RATE: sets the house rate (R61). -/
def execRate (s : State) : Host.Outcome State Fault Refusal := request 0x30#8 rateHandler s

/-- REFCFG: configures the reference (R67). -/
def execRefcfg (s : State) : Host.Outcome State Fault Refusal := request 0x31#8 refcfgHandler s

/-- CLOCKSET: sets the house clock at the next frame (R68). -/
def execClockset (s : State) : Host.Outcome State Fault Refusal := request 0x32#8 clocksetHandler s

/-- CLOCKREAD: returns the clock (R69). -/
def execClockread (s : State) : Host.Outcome State Fault Refusal := request 0x33#8 clockreadHandler s

/-- HARDOUT: sets or clears a hard out (R75). -/
def execHardout (s : State) : Host.Outcome State Fault Refusal := request 0x38#8 hardoutHandler s

/-- SUBST: sets or clears a timing substitute (R90). -/
def execSubst (s : State) : Host.Outcome State Fault Refusal := request 0x39#8 substHandler s

end Sys2Proof.Machine
end

