-- ==== Sys2Proof/Machine/LaneRequests.lean ====
section
/-! DEFINITION. The lane requests: START, STOP, TAKE, HOLD, RESUME, LANECFG and CLEARLANE (R115 to R121). -/
namespace Sys2Proof.Machine

/-- The state, held-by flags and last take of a lane, which end the responses of START, STOP, TAKE, HOLD and RESUME (R92). -/
def Dev.laneBytes (d : Dev) (l : Fin 4) : List Byte :=
  let r := d.world.lane l
  be 1 r.state.code ++ be 1 r.flags ++ optional (fun x => be 4 x.toNat) r.lastTake

/-- The lane that a request names, refused with BAD_ARG above 3. -/
def laneOnly (payload : List Byte) : Except Status (Fin 4) := do
  let lane ← fields readByte payload
  numbered 4 lane

/-! ### START (R115) -/

/-- A lane started (R115). -/
def World.start (e : Env) (w : World) (l : Fin 4) : World :=
  let w1 := w.modLane l (fun r => { r with state := .standby, action := decide (2 ≤ r.actionLevel) })
  (World.deriveNext e w1 l).askRecompute l

def startHandler : Handler := fun d payload => do
  let l ← laneOnly payload
  want (decide ((d.world.lane l).state = .idle)) .wrongState
  .ok (.done (d.withWorld (World.start d.env d.world l))
    (fun d => keyBytes (d.world.lane l).next ++ d.laneBytes l))

/-! ### STOP (R116) -/

/-- A lane stopped (R116): its ON_AIR item leaves air, the LOADs deferred behind it being sent then (R103; log 13), its NEXT item is
disarmed, and it leaves the waiter lists (R149). The ON_AIR item's cues are cleared first, then NEXT's, then what is left, so a cue of
NEXT waiting behind the ON_AIR item's shown cue is shown and cleared again within the STOP: the model's choice (R116, R184, log 58). -/
def World.stop (e : Env) (w : World) (l : Fin 4) : World :=
  let w1 := World.clearLaneCues e (World.disarm e (World.leaveAir e w l true) l) l
  let w2 := w1.modLane l (fun r =>
    { r with operator := false, action := false, gate := false, gateDue := none, state := .idle, onAir := none, next := none })
  ((w2.cleanWaiters l).endOverUnder l).askRecompute l

def stopHandler : Handler := fun d payload => do
  let l ← laneOnly payload
  want (decide ((d.world.lane l).state ≠ .idle)) .wrongState
  let off := (d.world.lane l).onAir
  .ok (.done (d.withWorld (World.stop d.env d.world l)) (fun d => keyBytes off ++ d.laneBytes l))

/-! ### TAKE (R117) -/

def readTake : Reader (Nat × Option Nat) := do
  let lane ← readByte
  let expected ← readOption (readNat 2)
  pure (lane, expected)

/-- The new ON_AIR key with its start, and the new NEXT key (R117). -/
def Dev.takeBytes (d : Dev) (l : Fin 4) : List Byte :=
  let start := ((d.world.onAirItem? l).bind (·.start)).getD { fs := 0, label := ⟨0, 0, 0, 0⟩ }
  keyBytes (d.world.lane l).onAir ++ be 4 start.fs.toNat ++ labelBytes start.label ++
  keyBytes (d.world.lane l).next ++ d.laneBytes l

def takeHandler : Handler := fun d payload => do
  let (lane, expected) ← fields readTake payload
  let l ← numbered 4 lane
  want (decide (expected ≠ some 0)) .badArg
  let r := d.world.lane l
  want (decide (r.state ≠ .idle)) .wrongState
  want r.next.isSome .noNext
  want (expected.isNone || decide (expected = r.next)) .stale
  want (World.guardPasses d.env d.world l) .tooSoon
  .ok (.done (d.withWorld (World.take d.env d.world l)) (fun d => d.takeBytes l))

/-! ### HOLD and RESUME (R118, R119) -/

def holdHandler : Handler := fun d payload => do
  let l ← laneOnly payload
  let r := d.world.lane l
  want (decide (r.state ≠ .idle)) .wrongState
  if r.operator then .ok (.same (d.laneBytes l))
  else .ok (.done (d.withWorld (d.world.setOperator l)) (fun d => d.laneBytes l))

/-- A lane's OPERATOR cleared; a HELD lane with no flag left is RUNNING, and an auto-take already due is evaluated at once
(R119). -/
def World.resume (e : Env) (w : World) (l : Fin 4) : World :=
  let held := decide ((w.lane l).state = .held)
  let w1 := (w.modLane l (fun r => { r with operator := false })).setState l
  if held then World.testAuto e w1 l else w1

def resumeHandler : Handler := fun d payload => do
  let l ← laneOnly payload
  let r := d.world.lane l
  want (decide (r.state ≠ .idle)) .wrongState
  if r.operator then .ok (.done (d.withWorld (World.resume d.env d.world l)) (fun d => d.laneBytes l))
  else .ok (.same (d.laneBytes l))

/-! ### LANECFG (R93, R120) -/

/-- The fields of a LANECFG (R120). -/
structure LanecfgReq where
  lane : Nat
  fitMode : Option Nat
  lockWindow : Option Nat
  lateTolerance : Option Nat
  takeGuard : Option Nat
  doneRetain : Option Nat
  gateTimeout : Option Nat
  noNextWarn : Option Nat
  safeList : Option (List Nat)
deriving DecidableEq, Repr

def readLanecfg : Reader LanecfgReq := do
  let lane ← readByte
  let fitMode ← readOption readByte
  let lockWindow ← readOption (readNat 2)
  let lateTolerance ← readOption readByte
  let takeGuard ← readOption readByte
  let doneRetain ← readOption readByte
  let gateTimeout ← readOption (readNat 2)
  let noNextWarn ← readOption (readNat 2)
  let safeList ← readOption (readList readByte)
  pure { lane, fitMode, lockWindow, lateTolerance, takeGuard, doneRetain, gateTimeout, noNextWarn, safeList }

/-- A safe list as stored: each device once, where it is first named (R120). -/
def storedSafeList (xs : List (Fin 64)) : List (Fin 64) :=
  xs.foldl (fun acc x => if acc.contains x then acc else acc ++ [x]) []

/-- The configuration as a LANECFG leaves it (R120). -/
def LanecfgReq.apply (q : LanecfgReq) (mode : Option FitMode) (safe : Option (List (Fin 64))) (c : LaneCfg) : LaneCfg :=
  { c with
    fitMode := mode.getD c.fitMode, lockWindow := q.lockWindow.getD c.lockWindow
    lateTolerance := q.lateTolerance.getD c.lateTolerance, takeGuard := (q.takeGuard.map (min 50)).getD c.takeGuard
    doneRetain := (q.doneRetain.map (min 64)).getD c.doneRetain, gateTimeout := q.gateTimeout.getD c.gateTimeout
    noNextWarn := q.noNextWarn.getD c.noNextWarn, safeList := (safe.map storedSafeList).getD c.safeList }

/-- The configuration of a lane as LANECFG reports it (R120). -/
def laneCfgBytes (c : LaneCfg) : List Byte :=
  be 1 c.fitMode.code ++ be 2 c.lockWindow ++ be 1 c.lateTolerance ++ be 1 c.takeGuard ++ be 1 c.doneRetain ++
  be 2 c.gateTimeout ++ be 2 c.noNextWarn ++ listBytes (fun x => be 1 x.val) c.safeList ++ optional signed c.substitute

/-- Devices of a safe list given, refused with BAD_ARG where one is above 63 (R120). -/
def safeDevices : Option (List Nat) → Except Status (Option (List (Fin 64)))
  | none => .ok none
  | some ns => do
    want (ns.all (fun n => decide (n < 64))) .badArg
    .ok (some (ns.filterMap (place? 64)))

def lanecfgHandler : Handler := fun d payload => do
  let q ← fields readLanecfg payload
  let l ← numbered 4 q.lane
  let mode ← match q.fitMode with
    | none => .ok none
    | some n => do
      let m ← need (fitMode? n) .badArg
      .ok (some m)
  let safe ← safeDevices q.safeList
  want (decide ((safe.getD []).length ≤ 8)) .limit
  let c := d.env.cfg.lanes.get l
  let c1 := q.apply mode safe c
  let d1 := d.withCfg (d.env.cfg.setLaneCfg l c1)
  if c1.fitMode ≠ c.fitMode ∨ c1.lockWindow ≠ c.lockWindow then
    .ok (.done (d1.askRecompute l) (fun _ => laneCfgBytes c1))
  else .ok (.write d1 (laneCfgBytes c1))

/-! ### CLEARLANE (R24, R121) -/

/-- The keys of a lane's items: its order and its standby item. -/
def Store.laneKeys (s : Store) (l : Fin 4) : List Nat := s.orders.get l ++ (s.standbys.get l).toList

def clearlaneHandler : Handler := fun d payload => do
  let l ← laneOnly payload
  want (decide ((d.world.lane l).state = .idle)) .busy
  let keys := d.world.store.laneKeys l
  let count := be 2 keys.length ++ be 2 ((d.world.store.itemsOf keys).map (·.elements.length)).sum
  let w := keys.foldl (fun w k => w.freeItem k) d.world
  let w1 := w.modLane l (fun r =>
    { r with cursor := none, operator := false, action := false, gate := false, gateDue := none, lastTake := none })
  let c := (d.env.cfg.setLaneCfg l .default).setHardOut l none
  .ok (.done (((d.withWorld w1).withCfg c).notice l (.between d.world w1 l)) (fun _ => count))

/-! ### The commands -/

/-- START: starts a lane (R115). -/
def execStart (s : State) : Host.Outcome State Fault Refusal := request 0x40#8 startHandler s

/-- STOP: takes a lane off air (R116). -/
def execStop (s : State) : Host.Outcome State Fault Refusal := request 0x41#8 stopHandler s

/-- TAKE: takes NEXT to air (R117). -/
def execTake (s : State) : Host.Outcome State Fault Refusal := request 0x42#8 takeHandler s

/-- HOLD: holds a lane (R118). -/
def execHold (s : State) : Host.Outcome State Fault Refusal := request 0x43#8 holdHandler s

/-- RESUME: releases the hold (R119). -/
def execResume (s : State) : Host.Outcome State Fault Refusal := request 0x44#8 resumeHandler s

/-- LANECFG: reads or changes the lane configuration (R120). -/
def execLanecfg (s : State) : Host.Outcome State Fault Refusal := request 0x45#8 lanecfgHandler s

/-- CLEARLANE: empties a lane (R121). -/
def execClearlane (s : State) : Host.Outcome State Fault Refusal := request 0x46#8 clearlaneHandler s

end Sys2Proof.Machine
end

