-- ==== Sys2Proof/Machine/RouterRequests.lean ====
section
/-! DEFINITION. MAP and SIDE (R155 to R157). -/
namespace Sys2Proof.Machine

/-- The entry that MAP and SIDE report: the entry as stored, the port state of each side, and for a PLAYOUT entry its holder, use
count and waiters (R155; log 4). -/
def Dev.entryBytes (d : Dev) (n : Fin 64) : List Byte :=
  let m := d.world.map.get n
  let sideBytes := fun (t : Target) => be 1 t.port.val ++ be 1 t.channel.val
  let portBytes := fun (t : Target) => be 1 (d.world.ports.get t.port).state.code
  flag m.valid ++ be 1 m.cls.code ++ sideBytes m.main ++ optional sideBytes m.backup ++ be 1 m.active.code ++
  flag m.autoFailover ++ be 2 m.preroll ++ portBytes m.main ++ optional portBytes m.backup ++
  (if m.cls = .playout then
    optional (fun (c : Claim) => be 1 c.lane.val) m.claim ++ be 1 (m.claim.elim 0 (·.users.length)) ++
      listBytes (fun (l : Fin 4) => be 1 l.val) m.waiters
   else [])

/-! ### MAP (R155, R156) -/

/-- The three forms of a MAP (R155): a side is a port and a channel. -/
inductive MapForm where
  | read
  | valid (cls : Nat) (main : Nat × Nat) (backup : Option (Nat × Nat)) (autoFailover : Bool) (preroll : Nat)
  | invalid
deriving DecidableEq, Repr

/-- A side: port and channel. -/
def readSide : Reader (Nat × Nat) := do
  let port ← readByte
  let channel ← readByte
  pure (port, channel)

/-- A backup side, or NONE (R155; log 4). -/
def readBackup : Reader (Option (Nat × Nat)) := do
  let f ← readField readSide
  match f with
  | .absent => Reader.fail
  | .given x => pure (some x)
  | .word => pure none

def readMapForm : Reader MapForm := do
  let form ← readByte
  if form = 0 then pure .read
  else if form = 1 then do
    let cls ← readByte
    let main ← readSide
    let backup ← readBackup
    let autoFailover ← readFlag
    let preroll ← readNat 2
    pure (.valid cls main backup autoFailover preroll)
  else if form = 2 then pure .invalid
  else Reader.fail

def readMap : Reader (Nat × MapForm) := do
  let entry ← readByte
  let form ← readMapForm
  pure (entry, form)

/-- A side whose port and channel there are (R155). -/
def target? (x : Nat × Nat) : Option Target :=
  match place? 8 x.1, place? 8 x.2 with
  | some p, some c => some ⟨p, c⟩
  | _, _ => none

/-- The sides of an entry. -/
def MapEntry.sides (m : MapEntry) : List Target := m.main :: m.backup.toList

/-- Whether two entries may not both be VALID: they share a side and one of them is PLAYOUT (R155). -/
def MapEntry.clashes (a b : MapEntry) : Bool :=
  a.valid && b.valid && (decide (a.cls = .playout) || decide (b.cls = .playout)) &&
    a.sides.any (fun t => b.sides.contains t)

/-- Whether a MAP changed nothing of an entry but its preroll lead and its auto failover setting (R156). -/
def MapEntry.sameService (a b : MapEntry) : Bool :=
  decide (a.valid = b.valid) && decide (a.cls = b.cls) && decide (a.main = b.main) && decide (a.backup = b.backup) &&
    decide (a.active = b.active)

/-- One CLIP of a lane's ON_AIR item that was loaded under the old entry: its load list entry goes and it is UNLOADED; one that was
waiting for load fires at once, and a firing that completes it has the cycle range tested (R136, R138, R156). -/
def World.remapOnAir (e : Env) (l : Fin 4) (w : World) (ref : ElemRef) : World :=
  let w1 := (w.modLane l (LaneRec.dropLoad ref)).modElem ref Element.unload
  match (w.lane l).fireQueue.find? (fun x => decide (x.ref = ref)) with
  | some en => if en.waitLoad then World.testCompleted e w (World.fireLate e w1 l en) l else w1
  | none => w1

/-- A lane treats its loaded clips on an entry that a MAP has changed as RETARGETED, those of its NEXT item and those of its ON_AIR
item, each in the order of its element list (R156; log 17). -/
def World.remapLane (e : Env) (d : Fin 64) (w : World) (l : Fin 4) : World :=
  let nextRefs := match w.nextItem? l with
    | some it => (it.elements.filter (Element.isLoadedUnrolled d)).map (fun el => (it.key, it.refOf el, el))
    | none => []
  let onAirRefs := match w.onAirItem? l with
    | some it => (it.elements.filter (Element.isLoadedUnrolled d)).map it.refOf
    | none => []
  onAirRefs.foldl (World.remapOnAir e l)
    (nextRefs.foldl (fun w x => World.changeNext e l x.1 w (.retargeted x.2.1 x.2.2)) w)

/-- A map entry written by MAP (R155, R156). -/
def Dev.writeEntry (d : Dev) (n : Fin 64) (m : MapEntry) : Dev :=
  let old := d.world.map.get n
  let w := d.world.setEntry n m
  d.withWorld (if old.valid && decide (old.cls = .graphics) && !old.sameService m then
    (places 4).foldl (World.remapLane d.env n) w
  else w)

def mapHandler : Handler := fun d payload => do
  let (entry, form) ← fields readMap payload
  let n ← numbered 64 entry
  let old := d.world.map.get n
  match form with
  | .read => .ok (.same (d.entryBytes n))
  | .invalid => do
    want (!(decide (old.cls = .playout) && old.claim.isSome)) .busy
    .ok (.done (d.writeEntry n .invalid) (fun d => d.entryBytes n))
  | .valid cls main backup autoFailover preroll => do
    let cls ← need (devClass? cls) .badArg
    let main ← need (target? main) .badArg
    let backup ← match backup with
      | none => .ok none
      | some x => do
        let t ← need (target? x) .badArg
        .ok (some t)
    want (decide (backup ≠ some main)) .badArg
    want (!(decide (old.cls = .playout) && old.claim.isSome)) .busy
    let m : MapEntry :=
      { valid := true, cls, main, backup, active := .main, autoFailover, preroll := min 1023 preroll
        claim := old.claim, waiters := old.waiters }
    want ((places 64).all (fun i => decide (i = n) || !(m.clashes (d.world.map.get i)))) .duplicate
    .ok (.done (d.writeEntry n m) (fun d => d.entryBytes n))

/-! ### SIDE (R157) -/

def readSideReq : Reader (Nat × Nat) := do
  let entry ← readByte
  let side ← readByte
  pure (entry, side)

def sideHandler : Handler := fun d payload => do
  let (entry, code) ← fields readSideReq payload
  let n ← numbered 64 entry
  let side ← need (side? code) .badArg
  let m := d.world.map.get n
  want m.valid .wrongState
  let t ← need (m.sideTarget side) .badArg
  want (d.world.portIs t.port .inService) .wrongState
  if m.active = side then .ok (.same (d.entryBytes n))
  else
    let w := d.world.setEntry n { m with active := side }
    .ok (.done (d.withWorld (World.repoint d.env w n)) (fun d => d.entryBytes n))

/-! ### The commands -/

/-- MAP: writes or reads an entry (R155). -/
def execMap (s : State) : Host.Outcome State Fault Refusal := request 0x50#8 mapHandler s

/-- SIDE: sets the active side (R157). -/
def execSide (s : State) : Host.Outcome State Fault Refusal := request 0x51#8 sideHandler s

end Sys2Proof.Machine
end

