-- ==== Sys2Proof/Machine/PortRequests.lean ====
section
/-! DEFINITION. PORTCFG, PORTEN and PORTRESET (R173 to R175). -/
namespace Sys2Proof.Machine

/-! ### PORTCFG (R173) -/

/-- The fields of a PORTCFG (R173). -/
structure PortcfgReq where
  port : Nat
  ackTimeout : Option Nat
  faultThreshold : Option Nat
  recoverCount : Option Nat
  probeInterval : Option Nat
  burstLimit : Option Nat
  precedence : Option (List Nat)
deriving DecidableEq, Repr

def readPortcfg : Reader PortcfgReq := do
  let port ← readByte
  let ackTimeout ← readOption readByte
  let faultThreshold ← readOption readByte
  let recoverCount ← readOption readByte
  let probeInterval ← readOption readByte
  let burstLimit ← readOption readByte
  let precedence ← readOption (readMany readByte 4)
  pure { port, ackTimeout, faultThreshold, recoverCount, probeInterval, burstLimit, precedence }

/-- A setting given, between 1 and its maximum (R173). -/
def setting (most : Nat) (given : Option Nat) (held : Nat) : Nat :=
  (given.map (fun n => max 1 (min most n))).getD held

/-- A lane precedence: each of the four lanes once (R173). -/
def precedence? (ns : List Nat) : Option (List (Fin 4)) :=
  let ls := ns.filterMap (place? 4)
  if ls.length = 4 ∧ (places 4).all (fun l => ls.contains l) then some ls else none

/-- The settings of a port as a PORTCFG leaves them (R173). -/
def PortcfgReq.apply (q : PortcfgReq) (order : Option (List (Fin 4))) (c : PortCfg) : PortCfg :=
  { ackTimeout := setting 255 q.ackTimeout c.ackTimeout
    faultThreshold := setting 15 q.faultThreshold c.faultThreshold
    recoverCount := setting 15 q.recoverCount c.recoverCount
    probeInterval := setting 255 q.probeInterval c.probeInterval
    burstLimit := setting 4 q.burstLimit c.burstLimit
    precedence := order.getD c.precedence }

/-- The record of a port as PORTCFG reports it (R173). -/
def Dev.portBytes (d : Dev) (p : Fin 8) : List Byte :=
  let c := d.env.cfg.ports.get p
  let r := d.world.ports.get p
  be 1 c.ackTimeout ++ be 1 c.faultThreshold ++ be 1 c.recoverCount ++ be 1 c.probeInterval ++ be 1 c.burstLimit ++
  c.precedence.flatMap (fun l => be 1 l.val) ++ be 1 r.state.code ++ be 1 r.failures ++ be 1 r.probeAcks ++
  r.fifos.cells.flatMap (fun q => be 1 q.length) ++ be 1 r.priority.length ++ be 1 r.window.length ++
  be 1 r.nextSeq.toNat ++ be 1 r.received.length

/-- The settings with a port's. -/
def Settings.setPortCfg (c : Settings) (p : Fin 8) (x : PortCfg) : Settings := { c with ports := c.ports.set p x }

def portcfgHandler : Handler := fun d payload => do
  let q ← fields readPortcfg payload
  let p ← numbered 8 q.port
  let order ← match q.precedence with
    | none => .ok none
    | some ns => do
      let ls ← need (precedence? ns) .badArg
      .ok (some ls)
  let c := q.apply order (d.env.cfg.ports.get p)
  let d1 := d.withCfg (d.env.cfg.setPortCfg p c)
  .ok (.write d1 (d1.portBytes p))

/-! ### PORTEN (R174) -/

def readPorten : Reader (Nat × Bool) := do
  let port ← readByte
  let on ← readOnOff
  pure (port, on)

/-- A port disabled: DOWN at one event, with every message that it held or had outstanding failed (R174), the outstanding ones in the
order in which they were transmitted (log 53). -/
def World.disablePort (e : Env) (w : World) (p : Fin 8) : World :=
  let r := w.ports.get p
  let w1 := w.modPort p Port.disable
  let w2 := World.failMessages e w1 (r.waitingMessages (e.cfg.ports.get p))
  r.window.foldl (fun w rc => World.answer e w rc.msg rc.owner .portFault) w2

def portenHandler : Handler := fun d payload => do
  let (port, on) ← fields readPorten payload
  let p ← numbered 8 port
  let r := d.world.ports.get p
  let state := fun (d : Dev) => be 1 (d.world.ports.get p).state.code
  match on, r.state with
  | true, .down => .ok (.done (d.withWorld (d.world.modPort p Port.enable)) (fun d => state d ++ be 1 0))
  | true, _ => .ok (.same (state d ++ be 1 0))
  | false, .down => .ok (.same (state d ++ be 1 0))
  | false, _ =>
    let count := (r.waitingMessages (d.env.cfg.ports.get p)).length + r.window.length
    .ok (.done (d.withWorld (World.disablePort d.env d.world p)) (fun d => state d ++ be 1 count))

/-! ### PORTRESET (R175) -/

def portresetHandler : Handler := fun d payload => do
  let port ← fields readByte payload
  let p ← numbered 8 port
  let r := d.world.ports.get p
  want (decide (r.state ≠ .down)) .wrongState
  let w := if r.state = .faulted then World.arbiter d.env (d.world.modPort p Port.recover) p
    else d.world.modPort p (fun r => { r with failures := 0, probeAcks := 0 })
  .ok (.done (d.withWorld w) (fun d => be 1 (d.world.ports.get p).state.code))

/-! ### The commands -/

/-- PORTCFG: reads or changes a port (R173). -/
def execPortcfg (s : State) : Host.Outcome State Fault Refusal := request 0x58#8 portcfgHandler s

/-- PORTEN: enables or disables a port (R174). -/
def execPorten (s : State) : Host.Outcome State Fault Refusal := request 0x59#8 portenHandler s

/-- PORTRESET: clears the health of a port (R175). -/
def execPortreset (s : State) : Host.Outcome State Fault Refusal := request 0x5A#8 portresetHandler s

end Sys2Proof.Machine
end

