-- ==== Sys2Proof/Machine/StationRequests.lean ====
section
/-! DEFINITION. STATION, CALL and ANSWER (R180, R188, R189). -/
namespace Sys2Proof.Machine

/-- A station's record read, assigned to a lane, or assigned to none (R180). -/
def readStation : Reader (Nat × Field Nat) := do
  let st ← readByte
  let x ← readField readByte
  pure (st, x)

/-- The current index of an element (R176). That of an element that is freed, which no slot of a run holds (R44, R140, R184), is 0
(log 54). -/
def Dev.elementIndex (d : Dev) (r : ElemRef) : Nat :=
  match d.world.store.elem? r with
  | some (it, _) => (it.index? r.elem).getD 0
  | none => 0

/-- The record of a station as STATION reports it: the fields that R180 lists, and so without heard since boundary (log 47), the
countdown in three bytes (log 4). -/
def Dev.stationBytes (d : Dev) (st : Fin 6) : List Byte :=
  let s := d.world.stations.get st
  optional (fun (l : Fin 4) => be 1 l.val) s.lane ++ flag s.present ++ be 1 s.missed ++
  optional (fun (c : StandbyCue) => be 2 c.req.key ++ be 1 (d.elementIndex c.req.ref) ++ signed (c.req.current d.env) ++
    be 3 c.countdown ++ be 1 c.response.code) s.standby ++
  be 1 s.waiting.length ++
  optional (fun (g : GoCue) => be 2 g.key ++ be 1 (d.elementIndex g.ref)) s.go ++ flag s.callFrom ++ flag s.callTo

/-- A station assigned anew: its slots and waiting list emptied, and a PRESENT station told of the slots that held a cue (R180). -/
def World.assignStation (w : World) (st : Fin 6) (lane : Option (Fin 4)) : World :=
  let s := w.stations.get st
  let w1 := w.modStation st (fun s => { s with lane, standby := none, waiting := [], go := none })
  let w2 := if s.present && s.standby.isSome then w1.sendClearStandby st else w1
  if s.present && s.go.isSome then w2.sendClearGo st else w2

def stationHandler : Handler := fun d payload => do
  let (n, x) ← fields readStation payload
  let st ← numbered 6 n
  let lane ← match x with
    | .absent => .ok (d.world.stations.get st).lane
    | .word => .ok none
    | .given k => do
      let l ← numbered 4 k
      .ok (some l)
  if lane = (d.world.stations.get st).lane then .ok (.same (d.stationBytes st))
  else .ok (.done (d.withWorld (d.world.assignStation st lane)) (fun d => d.stationBytes st))

/-- Both call flags of a station (R188, R189). -/
def Dev.callBytes (d : Dev) (st : Fin 6) : List Byte :=
  flag (d.world.stations.get st).callFrom ++ flag (d.world.stations.get st).callTo

def callHandler : Handler := fun d payload => do
  let (n, on) ← fields readPorten payload
  let st ← numbered 6 n
  let s := d.world.stations.get st
  if s.callTo = on then .ok (.same (d.callBytes st))
  else
    let w := d.world.modStation st (fun s => { s with callTo := on })
    let d1 := d.withWorld (if s.present then w.sendCall st on else w)
    .ok (.write d1 (d1.callBytes st))

def answerHandler : Handler := fun d payload => do
  let n ← fields readByte payload
  let st ← numbered 6 n
  let s := d.world.stations.get st
  if s.callFrom then
    let w := d.world.modStation st (fun s => { s with callFrom := false })
    let d1 := d.withWorld (if s.present then w.sendCallAnswered st else w)
    .ok (.write d1 (d1.callBytes st))
  else .ok (.same (d.callBytes st))

/-! ### The commands -/

/-- STATION: assigns or reads a station (R180). -/
def execStation (s : State) : Host.Outcome State Fault Refusal := request 0x60#8 stationHandler s

/-- CALL: lights or puts out a call lamp (R188). -/
def execCall (s : State) : Host.Outcome State Fault Refusal := request 0x61#8 callHandler s

/-- ANSWER: answers a call (R189). -/
def execAnswer (s : State) : Host.Outcome State Fault Refusal := request 0x62#8 answerHandler s

end Sys2Proof.Machine
end

