-- ==== Sys2Proof/Machine/ConditionRequests.lean ====
section
/-! DEFINITION. THRESH, ACTIONS, CONDREAD and ATTNCFG (R193, R197, R200, R207). -/
namespace Sys2Proof.Machine

/-! ### THRESH (R193) -/

/-- The fields of a THRESH (R193). -/
structure ThreshReq where
  lane : Nat
  overT : Option Nat
  underT : Option Nat
  count : Option Nat
  hysteresis : Option Nat
deriving DecidableEq, Repr

def readThresh : Reader ThreshReq := do
  let lane ← readByte
  let overT ← readOption (readNat 2)
  let underT ← readOption (readNat 2)
  let count ← readOption readByte
  let hysteresis ← readOption (readNat 2)
  pure { lane, overT, underT, count, hysteresis }

/-- The thresholds of a lane as a THRESH leaves them (R193). -/
def ThreshReq.apply (q : ThreshReq) (t : Thresh) : Thresh :=
  { overT := q.overT.getD t.overT, underT := q.underT.getD t.underT, count := setting 15 q.count t.count
    hysteresis := (q.hysteresis.map (min 1023)).getD t.hysteresis }

/-- The settings with a lane's thresholds. -/
def Settings.setThresh (c : Settings) (l : Fin 4) (x : Thresh) : Settings := { c with thresh := c.thresh.set l x }

/-- The settings and the present evaluation counts (R193). -/
def Dev.threshBytes (d : Dev) (l : Fin 4) : List Byte :=
  let t := d.env.cfg.thresh.get l
  be 2 t.overT ++ be 2 t.underT ++ be 1 t.count ++ be 2 t.hysteresis ++
  be 1 (d.world.monitor.overCount.get l) ++ be 1 (d.world.monitor.underCount.get l)

def threshHandler : Handler := fun d payload => do
  let q ← fields readThresh payload
  let l ← numbered 4 q.lane
  let d1 := d.withCfg (d.env.cfg.setThresh l (q.apply (d.env.cfg.thresh.get l)))
  .ok (.write d1 (d1.threshBytes l))

/-! ### ACTIONS (R200) -/

def readAction : Reader (Nat × Nat) := do
  let cond ← readByte
  let level ← readByte
  pure (cond, level)

def readActions : Reader (Nat × List (Nat × Nat)) := do
  let lane ← readByte
  let xs ← readList readAction
  pure (lane, xs)

/-- One condition's level written (R200): the levels of a request are written in the order given, so of two for one condition the last
stands (log 48). -/
def setLevelOf (t : Tbl 7 Nat) (x : Nat × Nat) : Tbl 7 Nat :=
  match place? 7 x.1 with
  | some i => t.set i x.2
  | none => t

/-- The settings with a lane's configured action levels. -/
def Settings.setLevels (c : Settings) (l : Fin 4) (x : Tbl 7 Nat) : Settings := { c with levels := c.levels.set l x }

/-- The configured levels, the lane's action level and the active states of its state conditions (R200). -/
def Dev.actionBytes (d : Dev) (l : Fin 4) : List Byte :=
  (d.env.cfg.levels.get l).cells.flatMap (be 1) ++ be 1 (d.world.lane l).actionLevel ++
  (d.world.monitor.actives l).flatMap flag

def actionsHandler : Handler := fun d payload => do
  let (lane, xs) ← fields readActions payload
  let l ← numbered 4 lane
  want (xs.all (fun x => decide (x.1 < 7) && decide (x.2 ≤ 3))) .badArg
  let c := d.env.cfg.setLevels l (xs.foldl setLevelOf (d.env.cfg.levels.get l))
  .ok (.done (d.withCfg c) (fun d => d.actionBytes l))

/-! ### CONDREAD (R197) -/

/-- A state instance as CONDREAD reports it (R197). -/
def stateBytes (i : Inst) : List Byte := flag i.active ++ flag i.latched ++ be 1 i.count

/-- An event instance as CONDREAD reports it (R197). -/
def eventBytes (i : Inst) : List Byte := flag i.latched ++ be 1 i.count

/-- The 50 instances in the order of the condition table (R190, R197). -/
def Monitor.bytes (m : Monitor) : List Byte :=
  m.overI.cells.flatMap stateBytes ++ m.underI.cells.flatMap stateBytes ++ m.noNext.cells.flatMap stateBytes ++
  m.notReady.cells.flatMap stateBytes ++ m.portFault.cells.flatMap stateBytes ++
  m.stationLost.cells.flatMap stateBytes ++ stateBytes m.refLost ++ m.gateTimeout.cells.flatMap eventBytes ++
  eventBytes m.clockSlip ++ m.rxOverrun.cells.flatMap eventBytes ++ m.stationCall.cells.flatMap eventBytes ++
  m.stationHold.cells.flatMap eventBytes

/-- The conditions, by number, whose configured level makes up a lane's action level: those active at that level, none at level 0
(R197; log 4). -/
def Dev.madeBy (d : Dev) (l : Fin 4) : List Nat :=
  let level := (d.world.lane l).actionLevel
  let xs := ((d.env.cfg.levels.get l).cells.zip (d.world.monitor.actives l)).zip (List.range 7)
  if level = 0 then [] else (xs.filter (fun x => x.1.2 && decide (x.1.1 = level))).map (·.2)

/-- An instance that is not active cleared (R190, R197). -/
def Inst.clearEnded (i : Inst) : Inst := if i.active then i else { i with latched := false, count := 0 }

/-- The table cleared of what has ended (R197). -/
def Monitor.clearEnded (m : Monitor) : Monitor :=
  { m with
    overI := m.overI.map Inst.clearEnded, underI := m.underI.map Inst.clearEnded
    noNext := m.noNext.map Inst.clearEnded, notReady := m.notReady.map Inst.clearEnded
    portFault := m.portFault.map Inst.clearEnded, stationLost := m.stationLost.map Inst.clearEnded
    refLost := m.refLost.clearEnded, gateTimeout := m.gateTimeout.map Inst.clearEnded
    clockSlip := m.clockSlip.clearEnded, rxOverrun := m.rxOverrun.map Inst.clearEnded
    stationCall := m.stationCall.map Inst.clearEnded, stationHold := m.stationHold.map Inst.clearEnded }

/-- The table as CONDREAD returns it (R197). -/
def Dev.tableBytes (d : Dev) : List Byte :=
  d.world.monitor.bytes ++ (places 4).flatMap (fun l => be 1 (d.world.lane l).actionLevel) ++
  (places 4).flatMap (fun l => listBytes (be 1) (d.madeBy l))

def condreadHandler : Handler := fun d payload => do
  fields readNone payload
  .ok (.write (d.withWorld (d.world.setMonitor d.world.monitor.clearEnded)) d.tableBytes)

/-! ### ATTNCFG (R207) -/

def readAttncfg : Reader (Option Nat × Option Nat) := do
  let mask ← readOption (readNat 2)
  let mode ← readOption readByte
  pure (mask, mode)

/-- The pulse driver after the mode is set: a change of mode leaves no pulse pending and none being driven (R207). -/
def Pulse.afterMode (p : Pulse) (old new : AttnMode) : Pulse := if old = new then p else { phase := .idle, pending := 0 }

def attncfgHandler : Handler := fun d payload => do
  let (mask, modeByte) ← fields readAttncfg payload
  let c := d.env.cfg
  let mode ← match modeByte with
    | none => .ok c.attnMode
    | some n => need (attnMode? n) .badArg
  let c1 := { c with attnMask := (mask.map (BitVec.ofNat 12)).getD c.attnMask, attnMode := mode }
  let w := { d.world with pulse := d.world.pulse.afterMode c.attnMode mode }
  .ok (.write ((d.withWorld w).withCfg c1)
    (be 2 c1.attnMask.toNat ++ be 1 c1.attnMode.code ++ be 2 d.world.monitor.causes.toNat))

/-! ### The commands -/

/-- THRESH: sets thresholds (R193). -/
def execThresh (s : State) : Host.Outcome State Fault Refusal := request 0x68#8 threshHandler s

/-- ACTIONS: sets action levels (R200). -/
def execActions (s : State) : Host.Outcome State Fault Refusal := request 0x69#8 actionsHandler s

/-- CONDREAD: reads and clears the table (R197). -/
def execCondread (s : State) : Host.Outcome State Fault Refusal := request 0x6A#8 condreadHandler s

/-- ATTNCFG: sets the attention mask and mode (R207). -/
def execAttncfg (s : State) : Host.Outcome State Fault Refusal := request 0x70#8 attncfgHandler s

end Sys2Proof.Machine
end

