-- ==== Sys2Proof/Machine/ControlPort.lean ====
section
/-! DEFINITION. The transactions of the control port and the ATTN pulses (R202 to R206, R208). -/
namespace Sys2Proof.Machine

/-- `n` bytes of SDO that the manual does not give: those sent while a request frame is received (R203; log 23). -/
def freeBytes (start : Nat) : Nat → List Byte
  | 0 => []
  | n + 1 => Config.sdoByte start :: freeBytes (start + 1) n

/-- The status byte sent and the overrun flag it carries cleared (R202). -/
def ControlPort.sent (c : ControlPort) : ControlPort := { c with overrun := false }

/-- Bytes driven on SDO. -/
def State.sdo (s : State) (bytes : List Byte) : State :=
  { s with dev := { s.dev with world := { s.dev.world with out := { s.dev.world.out with sdo := some bytes } } } }

/-- Nothing of a transaction is taken while RESET_N is low (R208). -/
def State.transaction (f : State → State) (s : State) : State := if s.pins.reset then s else f s

/-- A transaction that reads the status byte alone: one that ends before its first byte is complete reads nothing and clears
nothing, and 00 is sent for each further byte (R202). -/
def State.readStatus (code : Option Byte) (further : Nat) (s : State) : State :=
  match code with
  | none => s
  | some _ => { (s.sdo (s.statusByte :: List.replicate further 0#8)) with ctl := s.ctl.sent }

/-- The request frame at the front of the bytes of a write transaction, and how many bytes follow it; none where CS_N rises before
the frame is complete (R203). -/
def readFrame (bytes : List Byte) : Option (Request × Nat) :=
  match bytes with
  | kind :: tag :: length :: rest =>
    if length.toNat ≤ rest.length then
      some ({ kind, tag, length, payload := rest.take length.toNat }, rest.length - length.toNat)
    else none
  | _ => none

/-- A request frame joins the queue, or is discarded with the overrun flag set where the queue is full (R203). -/
def ControlPort.queue (c : ControlPort) (r : Request) : ControlPort :=
  if c.requests.length < Config.controlQueueSize then { c with requests := c.requests ++ [r] }
  else { c with overrun := true }

/-- A write transaction (R202, R203). -/
def State.writeRequest (bytes : List Byte) (s : State) : State :=
  let c := s.ctl.sent
  match readFrame bytes with
  | none =>
    { (s.sdo (s.statusByte :: freeBytes s.free bytes.length)) with ctl := c, free := s.free + bytes.length }
  | some (r, further) =>
    let n := bytes.length - further
    { (s.sdo (s.statusByte :: (freeBytes s.free n ++ List.replicate further 0#8))) with
      ctl := c.queue r, free := s.free + n }

/-- A response frame (R205, R209). -/
def Reply.frame (r : Reply) : List Byte := [r.tag, r.status, BitVec.ofNat 8 r.payload.length] ++ r.payload

/-- The reply of a read that finds the queue empty (R205). -/
def emptyReply : List Byte := [0x00#8, 0xFF#8, 0x00#8]

/-- A read transaction of `clocked` bytes after the code: the response at the head of the queue leaves it when its last byte has
been sent (R205). -/
def State.readResponse (clocked : Nat) (s : State) : State :=
  let c := s.ctl.sent
  match s.ctl.responses with
  | [] =>
    { (s.sdo (s.statusByte :: (emptyReply ++ List.replicate (clocked - 3) 0#8).take clocked)) with ctl := c }
  | r :: rest =>
    let frame := r.frame
    { (s.sdo (s.statusByte :: (frame ++ List.replicate (clocked - frame.length) 0#8).take clocked)) with
      ctl := if frame.length ≤ clocked then { c with responses := rest } else c }

/-- The request at the head of the queue answered UNKNOWN, where its kind names no request and the response queue has room
(R204). -/
def State.serveUnknown (s : State) : State :=
  match s.ctl.requests with
  | [] => s
  | r :: rest =>
    if !kinds.contains r.kind && decide (s.ctl.responses.length < Config.controlQueueSize) then
      s.respond rest r.tag (s.dev, .unknown, [])
    else s

/-- A phase of a pulse has lasted: ATTN is released after the pulse, and the gap after it ends (R206). -/
def Pulse.advance (p : Pulse) : Pulse :=
  match p.phase with
  | .idle => p
  | .asserted => { p with phase := .gap }
  | .gap => { p with phase := .idle }

/-- The pulse driver's timer expires (R206). -/
def State.pulseTimer (s : State) : State :=
  { s with dev := { s.dev with world := { s.dev.world with pulse := s.dev.world.pulse.advance } } }

/-! ### The commands -/

/-- A transaction that reads the status byte alone (R202). -/
def execStatusTransaction (code : Option Byte) (further : Nat) (s : State) : Host.Outcome State Fault Refusal :=
  s.run (State.transaction (State.readStatus code further))

/-- A write transaction (R203). -/
def execWriteTransaction (bytes : List Byte) (s : State) : Host.Outcome State Fault Refusal :=
  s.run (State.transaction (State.writeRequest bytes))

/-- A read transaction (R205). -/
def execReadTransaction (clocked : Nat) (s : State) : Host.Outcome State Fault Refusal :=
  s.run (State.transaction (State.readResponse clocked))

/-- A request of a kind that names none is answered UNKNOWN (R204). -/
def execUnknownRequest (s : State) : Host.Outcome State Fault Refusal :=
  s.run State.serveUnknown

/-- A phase of an ATTN pulse ends (R206). -/
def execAttnPulseTimer (s : State) : Host.Outcome State Fault Refusal :=
  s.run State.pulseTimer

end Sys2Proof.Machine
end

