-- ==== Sys2Proof/Machine/Arrival.lean ====
section
/-! DEFINITION. A frame arrival: the Reference Unit's own work (R53, R65, R66, R68), then the work of the blocks it reaches, in an
order that the manual leaves open (R53; log 5), and the tests that a frame arrival makes due (R104, R113, R167, R169). -/
namespace Sys2Proof.Machine

/-! ### The Reference Unit's work (R53) -/

/-- The house clock advanced by one frame (R53). -/
def RefUnit.advanced (r : RefUnit) : Nat := (r.t + 1) % r.rate.day

/-- The frame count that a pending CLOCKSET label takes at the rate in force (R68); a label kept through a RATE that has no reading
at the new rate takes a free one (log 22). -/
def RefUnit.pendingCount (r : RefUnit) (l : Label) : Nat :=
  match r.rate.read l with
  | some n => n
  | none => Config.staleLabelCount r.rate.nominal l.hh l.mm l.ss l.ff % r.rate.day

/-- What the Reference Unit's own work at a frame arrival leaves: the unit, the shift Δ of a clock that was set, and whether it was a
re-jam. -/
structure ClockWork where
  ref : RefUnit
  shift : Option Int
  slipped : Bool
deriving DecidableEq, Repr

/-- The label check of a frame arrival whose pulse brought `label`, at the advanced clock (R65, R66). -/
def RefUnit.checkLabel (r : RefUnit) (label : Option Label) : ClockWork :=
  match (if r.labelCheck then label.bind r.rate.read else none) with
  | none => { ref := r, shift := none, slipped := false }
  | some n =>
    if n = r.t then { ref := { r with mismatch := 0 }, shift := none, slipped := false }
    else if r.slipCount ≤ r.mismatch + 1 then
      { ref := { r with t := n, mismatch := 0 }, shift := some (r.rate.shift ((n : Int) - r.t)), slipped := true }
    else { ref := { r with mismatch := min 15 (r.mismatch + 1) }, shift := none, slipped := false }

/-- The frame counter and the house clock at a frame arrival: a pending CLOCKSET is applied, or the label check made (R53, R65, R66,
R68). -/
def RefUnit.arrive (r : RefUnit) (label : Option Label) : ClockWork :=
  let r1 := { r with fc := r.fc + 1, t := r.advanced }
  match r.pendingLabel with
  | some l =>
    let n := r.pendingCount l
    { ref := { r1 with t := n, mismatch := 0, pendingLabel := none }
      shift := some (r.rate.shift ((n : Int) - r.advanced)), slipped := false }
  | none => r1.checkLabel label

/-- Every hard out moved against a shift of the clock (R66, R68, R76). -/
def Settings.shift (c : Settings) (delta : Int) : Settings :=
  { c with hardOuts := c.hardOuts.map (fun h => h.map (fun x => { x with habs := x.habs - BitVec.ofInt 32 delta })) }

/-- The tests that a frame arrival makes due in a lane, with the gate timeout in force (R104, R113; log 6). -/
def LaneRec.tick (c : LaneCfg) (r : LaneRec) : LaneRec :=
  { r with
    gateTick := if r.state = .waiting ∧ c.gateTimeout ≠ 0 then some c.gateTimeout else none
    lastTick := r.lastTake.isSome }

/-- The tests that a frame arrival makes due in a port, with the settings in force (R167, R169; log 6). -/
def Port.tick (c : PortCfg) (r : Port) : Port :=
  { r with
    ackTick := if r.window = [] then none else some c.ackTimeout
    probeTick := if r.state = .faulted then some c.probeInterval else none }

/-- The tests of a frame arrival made due in every lane and port. -/
def World.tick (c : Settings) (w : World) : World :=
  let w1 := (places 4).foldl (fun w l => w.modLane l (LaneRec.tick (c.lanes.get l))) w
  (places 8).foldl (fun w p => w.modPort p (Port.tick (c.ports.get p))) w1

/-- The Reference Unit's own work for a frame arrival, from the unit as the arrival's source leaves it (R53). Where it shifts the hard
outs, it asks for the recompute of the lanes that have one, which the settling after the first block's work makes (R66, R68, R73,
R76; log 50). -/
def Dev.arrive (d : Dev) (r : RefUnit) (label : Option Label) : Dev :=
  let k := r.arrive label
  let d1 := d.withRef k.ref
  let d2 := match k.shift with
    | some delta => (d1.withCfg (d1.env.cfg.shift delta)).askHardOuts
    | none => d1
  let d3 := if k.slipped then d2.withWorld (World.latchSlip d2.env d2.world) else d2
  d3.withWorld (d3.world.tick d3.env.cfg)

/-! ### The blocks' work -/

/-- A block's work that a frame arrival makes due. -/
inductive Task where
  | engine (l : Fin 4)
  | lane (l : Fin 4)
  | boundary
  | evaluate (l : Fin 4)
  | gate (l : Fin 4)
  | lastTake (l : Fin 4)
  | ackTimeout (p : Fin 8)
  | probe (p : Fin 8)
  | absent (st : Fin 6)
deriving DecidableEq, Repr

/-- One block's work (R53, R64, R73, R104, R113, R127, R167, R169, R178, R192). -/
def Task.work (e : Env) (w : World) : Task → World
  | .engine l => if (w.lane l).state = .idle then w else w.askRecompute l
  | .lane l => World.laneArrival e w l
  | .boundary => World.stationBoundary e w
  | .evaluate l => World.evalLane e w l
  | .gate l => World.gateTest e w l
  | .lastTake l => World.lastTakeTest e w l
  | .ackTimeout p => World.timeoutTest e w p
  | .probe p => World.probeTest e w p
  | .absent st => w.takeThirdMiss st

/-- Blocks' work done one after another, each an event that settles before the next. -/
def World.runTasks (e : Env) (w : World) (ts : List Task) : World :=
  ts.foldl (fun w t => World.settle e (Task.work e w t)) w

/-- The work of the blocks that a frame arrival reaches, and, with a second boundary, of those the boundary reaches (R53). -/
def arrivalTasks (boundary : Bool) : List Task :=
  (places 4).map .engine ++ (places 4).map .lane ++
  (if boundary then .boundary :: (places 4).map .evaluate else [])

/-- The tests of the last frame arrival that have not been made (log 6). -/
def World.leftTasks (w : World) : List Task :=
  ((places 4).filter (fun l => (w.lane l).gateTick.isSome)).map .gate ++
  ((places 4).filter (fun l => (w.lane l).lastTick)).map .lastTake ++
  ((places 8).filter (fun p => (w.ports.get p).ackTick.isSome)).map .ackTimeout ++
  ((places 8).filter (fun p => (w.ports.get p).probeTick.isSome)).map .probe ++
  ((places 6).filter (fun st => (w.stations.get st).thirdMiss)).map .absent

/-- A list in the order that a sequence of choices gives: at each choice one of what is left is taken. The second argument
bounds the choices made. -/
def arrange {α : Type} (choice : Nat → Nat) : Nat → Nat → List α → List α
  | _, 0, xs => xs
  | start, n + 1, xs =>
    match xs[choice start % xs.length]? with
    | none => xs
    | some a => a :: arrange choice (start + 1) n (xs.eraseIdx (choice start % xs.length))

/-- The part's world changed, the rest of the state kept. -/
def State.withWorld (s : State) (w : World) : State := { s with dev := s.dev.withWorld w }

/-- Blocks' work done in the order that the choices give; each choice uses up one value of the count. -/
def State.runTasks (choice : Nat → Nat) (ts : List Task) (s : State) : State :=
  { (s.withWorld (World.runTasks s.dev.env s.dev.world (arrange choice s.free ts.length ts))) with
    free := s.free + ts.length }

/-- A frame arrival, with the order of the blocks given by `choice`: what the last one left undone is done, the Reference Unit
works, and the blocks act (R53; log 5, 6). `r` is the Reference Unit as the arrival's source leaves it. REF_LOST is judged by it in the
settling that follows the work of the first block that acts (R195; log 50). -/
def State.arrivalWith (choice : Nat → Nat) (r : RefUnit) (label : Option Label) (s : State) : State :=
  let s1 := s.runTasks choice s.dev.world.leftTasks
  let s2 := { s1 with dev := s1.dev.arrive r label }
  s2.runTasks choice (arrivalTasks (s2.dev.env.ref.rate.secondBoundary s2.dev.env.ref.t))

/-- A frame arrival; the order in which the blocks act is free (R53; log 5). -/
def State.arrival (r : RefUnit) (label : Option Label) (s : State) : State :=
  s.arrivalWith Config.blockChoice r label

/-! ### The sources of frames (R55 to R58) -/

/-- Whether a pulse is early: less than one half of a frame period after the previous accepted one (R56). -/
def RefUnit.early (r : RefUnit) (since : Nat) : Bool := r.pulseAccepted && decide (since * 2 < r.rate.period)

/-- An accepted pulse in the Reference Unit (R56, R57); the second component says whether it is a frame arrival. -/
def RefUnit.acceptPulse (r : RefUnit) : RefUnit × Bool :=
  let r1 := { r with pulseAccepted := true, missingTimer := true }
  match r.state with
  | .freeRun => ({ r1 with state := .acquiring, acquired := 1 }, false)
  | .acquiring =>
    if r.acquired < 15 then ({ r1 with acquired := r.acquired + 1 }, false)
    else ({ r1 with acquired := 16, state := .locked, internal := none }, true)
  | .locked => (r1, true)

/-- The Reference Unit as the missing-pulse timer's expiry leaves it, and whether that is a frame arrival (R57, R58). -/
def RefUnit.missPulse (r : RefUnit) : RefUnit × Bool :=
  let r1 := { r with state := .freeRun, acquired := 0, missingTimer := false }
  if r.state = .locked then ({ r1 with mismatch := 0, internal := some .missingPulse }, true) else (r1, false)

/-- An event of the part: its change to the world, settled. -/
def State.event (f : Env → World → World) (s : State) : State :=
  s.withWorld (World.settle s.dev.env (f s.dev.env s.dev.world))

/-- A change to the Reference Unit that is no frame arrival, settled. -/
def State.refEvent (r : RefUnit) (s : State) : State := { s with dev := (s.dev.withRef r).settle }

/-- A pulse on the reference input (R56, R57). -/
def State.pulse (since : Nat) (label : Option Label) (s : State) : State :=
  let r := s.dev.env.ref
  if !r.enabled then s
  else if r.early since then
    (if r.state = .acquiring then s.refEvent { r with acquired := 0 } else s)
  else if r.acceptPulse.2 then s.arrival r.acceptPulse.1 label
  else s.refEvent r.acceptPulse.1

/-- The missing-pulse timer expires (R58). -/
def State.missPulse (s : State) : State :=
  let r := s.dev.env.ref
  if !r.missingTimer then s
  else if r.missPulse.2 then s.arrival r.missPulse.1 none
  else s.refEvent r.missPulse.1

/-- The internal source's period timer expires (R55). -/
def State.sourceExpiry (s : State) : State :=
  match s.dev.env.ref.internal with
  | none => s
  | some _ => s.arrival { s.dev.env.ref with internal := some .ownExpiry } none

/-! ### The commands -/

/-- The internal source expires: a frame arrival (R55). -/
def execInternalSourceExpiry (s : State) : Host.Outcome State Fault Refusal :=
  s.run State.sourceExpiry

/-- A pulse on the reference input (R56, R57). -/
def execReferencePulse (since : Nat) (label : Option Label) (s : State) : Host.Outcome State Fault Refusal :=
  s.run (State.pulse since label)

/-- The missing-pulse timer expires (R58). -/
def execMissingPulseTimer (s : State) : Host.Outcome State Fault Refusal :=
  s.run State.missPulse

end Sys2Proof.Machine
end

