-- ==== Sys2Proof/Machine/Links.lean ====
section
/-! DEFINITION. What the panel lines, the cue links and the station links bring, and the tests of a frame arrival as commands of
their own (R104, R113, R114, R166 to R169, R178, R186, R187). -/
namespace Sys2Proof.Machine

/-! ### Panel lines (R114) -/

/-- The pins with a lane's line at a level. -/
def Pins.line (p : Pins) (l : Fin 4) (line : PanelLine) (level : Bool) : Pins :=
  match line with
  | .take => { p with take := p.take.set l level }
  | .hold => { p with hold := p.hold.set l level }

/-- Whether a panel TAKE acts: a TAKE request with no expected key would not be refused (R114). -/
def World.panelTakes (e : Env) (w : World) (l : Fin 4) : Bool :=
  decide ((w.lane l).state ≠ .idle) && (w.lane l).next.isSome && World.guardPasses e w l

/-- Whether a panel HOLD acts: the lane is not IDLE and OPERATOR is not set (R114, R118). -/
def World.panelHolds (w : World) (l : Fin 4) : Bool := decide ((w.lane l).state ≠ .idle) && !(w.lane l).operator

/-- The asserting edge of a panel TAKE line: a manual take, or nothing where it would be refused; a line held asserted acts once
(R114). -/
def State.panelTake (l : Fin 4) (s : State) : State :=
  if s.pins.take.get l then s
  else
    let s1 := { s with pins := s.pins.line l .take true }
    if World.panelTakes s.dev.env s.dev.world l then s1.event (fun e w => World.take e w l) else s1

/-- The asserting edge of a panel HOLD line, likewise (R114). -/
def State.panelHold (l : Fin 4) (s : State) : State :=
  if s.pins.hold.get l then s
  else
    let s1 := { s with pins := s.pins.line l .hold true }
    if s.dev.world.panelHolds l then s1.event (fun _ w => w.setOperator l) else s1

/-! ### Cue links (R166) -/

/-- What a received message is to its port (R166, R212). -/
inductive Received where
  | ack (rc : WinRec)
  | nak (rc : WinRec) (reason : Byte)
  | endOf (channel : Fin 8)
  | discard
deriving DecidableEq, Repr

/-- The outstanding record that holds a seq (R166). -/
def Port.outstanding? (p : Port) (seq : Byte) : Option WinRec := p.window.find? (fun rc => decide (rc.seq = seq))

/-- A received message judged by its kind and fields (R166, R211, R212). -/
def Port.judge (p : Port) (m : RxMsg) : Received :=
  match m.fields with
  | [x] =>
    if m.kind = 0x81#8 then
      match p.outstanding? x with
      | some rc => .ack rc
      | none => .discard
    else if m.kind = 0x83#8 then
      match place? 8 x.toNat with
      | some ch => .endOf ch
      | none => .discard
    else .discard
  | [x, reason] =>
    if m.kind = 0x82#8 then
      match p.outstanding? x with
      | some rc => .nak rc reason
      | none => .discard
    else .discard
  | _ => .discard

/-- The message at the head of a port's receive queue, judged. -/
def World.head (w : World) (p : Fin 8) : Option Received :=
  ((w.ports.get p).received.head?).map (w.ports.get p).judge

/-- The head of a port's receive queue taken (R166). -/
def World.popReceived (w : World) (p : Fin 8) : World := w.modPort p (fun r => { r with received := r.received.tail })

/-- A frame that arrives on a cue link joins the receive queue, or is discarded: in DOWN, where its check fails, or, with RX_OVERRUN
latched, where the queue is full (R161, R166, R172). -/
def World.receive (e : Env) (w : World) (p : Fin 8) (bytes : List Byte) : World :=
  let r := w.ports.get p
  match checkFrame bytes with
  | none => w
  | some (kind, fields) =>
    if r.state = .down then w
    else if r.received.length < Config.portQueueSize then
      w.setPort p { r with received := r.received ++ [{ kind, fields }] }
    else World.latchOverrun e w p

/-- A frame arrives on a cue link (R166). -/
def State.receive (p : Fin 8) (bytes : List Byte) (s : State) : State :=
  s.withWorld (World.receive s.dev.env s.dev.world p bytes)

/-- An answer taken from a receive queue completes its record, and the arbiter runs (R166). The answer reaches its owner first, whose
cycle may so submit to this port before the arbiter has made room in its FIFO (R162; log 46). -/
def World.takeAnswer (e : Env) (w : World) (p : Fin 8) (rc : WinRec) (o : MsgOutcome) : World :=
  World.arbiter e (World.completeRecord e p o (w.popReceived p) rc) p

/-- An ACK at the head acted on (R166). -/
def State.takeAck (p : Fin 8) (s : State) : State :=
  match s.dev.world.head p with
  | some (.ack rc) => s.event (fun e w => World.takeAnswer e w p rc .ack)
  | _ => s

/-- A NAK at the head acted on (R166). -/
def State.takeNak (p : Fin 8) (s : State) : State :=
  match s.dev.world.head p with
  | some (.nak rc reason) => s.event (fun e w => World.takeAnswer e w p rc (nakOutcome reason))
  | _ => s

/-- An END at the head handed to the router (R166, R170). -/
def State.takeEnd (p : Fin 8) (s : State) : State :=
  match s.dev.world.head p with
  | some (.endOf ch) => s.event (fun e w => World.endNotice e (w.popReceived p) ⟨p, ch⟩)
  | _ => s

/-- Any other message at the head discarded (R166). -/
def State.takeOther (p : Fin 8) (s : State) : State :=
  match s.dev.world.head p with
  | some .discard => s.withWorld (s.dev.world.popReceived p)
  | _ => s

/-! ### Station links (R178, R186, R187) -/

/-- A CALL heard from a station (R187). -/
def World.callHeard (e : Env) (w : World) (st : Fin 6) : World :=
  World.latchCall e (w.modStation st (fun s => { s with callFrom := true })) st

/-- A frame from a station that carries none of its four messages: heard where it passes its check, and then discarded (R178,
R212). -/
def State.stationFrame (st : Fin 6) (bytes : List Byte) (s : State) : State :=
  match checkFrame bytes with
  | none => s
  | some _ => s.event (fun _ w => w.hear st)

/-! ### The tests of a frame arrival (log 6) -/

/-- The gate test of the last frame arrival, where the lane has not made it (R113). -/
def State.gateTest (l : Fin 4) (s : State) : State :=
  if (s.dev.world.lane l).gateTick.isSome then s.event (fun e w => World.gateTest e w l) else s

/-- The test of the last take for the last frame arrival (R104). -/
def State.lastTakeTest (l : Fin 4) (s : State) : State := s.withWorld (World.lastTakeTest s.dev.env s.dev.world l)

/-- The test of a port's outstanding records for the last frame arrival, where the port has not made it (R167). -/
def State.timeoutTest (p : Fin 8) (s : State) : State :=
  if (s.dev.world.ports.get p).ackTick.isSome then s.event (fun e w => World.timeoutTest e w p) else s

/-- The test of a port's probe interval for the last frame arrival (R169). -/
def State.probeTest (p : Fin 8) (s : State) : State := s.withWorld (World.probeTest s.dev.env s.dev.world p)

/-- A station's third missed boundary taken, where it has not been (R178, R179). -/
def State.absentTest (st : Fin 6) (s : State) : State :=
  if (s.dev.world.stations.get st).thirdMiss then s.event (fun _ w => w.takeThirdMiss st) else s

/-! ### The commands -/

/-- A panel TAKE edge (R114). -/
def execPanelTake (lane : Fin 4) (s : State) : Host.Outcome State Fault Refusal :=
  s.run (State.panelTake lane)

/-- A panel HOLD edge (R114). -/
def execPanelHold (lane : Fin 4) (s : State) : Host.Outcome State Fault Refusal :=
  s.run (State.panelHold lane)

/-- A panel line released (R114). -/
def execPanelLineRelease (lane : Fin 4) (line : PanelLine) (s : State) : Host.Outcome State Fault Refusal :=
  s.run (fun s => { s with pins := s.pins.line lane line false })

/-- A lane tests its gate timeout (R113). -/
def execGateTimeout (lane : Fin 4) (s : State) : Host.Outcome State Fault Refusal :=
  s.run (State.gateTest lane)

/-- A lane tests its last take (R104). -/
def execLastTakeClear (lane : Fin 4) (s : State) : Host.Outcome State Fault Refusal :=
  s.run (State.lastTakeTest lane)

/-- A frame arrives on a cue link (R166, R172). -/
def execCueFrameReceived (port : Fin 8) (bytes : List Byte) (s : State) : Host.Outcome State Fault Refusal :=
  s.run (State.receive port bytes)

/-- An ACK acted on (R166). -/
def execAck (port : Fin 8) (s : State) : Host.Outcome State Fault Refusal :=
  s.run (State.takeAck port)

/-- A NAK acted on (R166). -/
def execNak (port : Fin 8) (s : State) : Host.Outcome State Fault Refusal :=
  s.run (State.takeNak port)

/-- An END acted on (R166, R170). -/
def execEndNotice (port : Fin 8) (s : State) : Host.Outcome State Fault Refusal :=
  s.run (State.takeEnd port)

/-- A received message discarded (R166). -/
def execReceivedMessageDiscard (port : Fin 8) (s : State) : Host.Outcome State Fault Refusal :=
  s.run (State.takeOther port)

/-- A port tests its outstanding records (R167). -/
def execAckTimeout (port : Fin 8) (s : State) : Host.Outcome State Fault Refusal :=
  s.run (State.timeoutTest port)

/-- A port tests its probe interval (R169). -/
def execProbeTimer (port : Fin 8) (s : State) : Host.Outcome State Fault Refusal :=
  s.run (State.probeTest port)

/-- An ALIVE heard (R178). -/
def execAlive (station : Fin 6) (s : State) : Host.Outcome State Fault Refusal :=
  s.run (State.event (fun _ w => w.hear station))

/-- A READY heard (R178, R186). -/
def execReady (station : Fin 6) (s : State) : Host.Outcome State Fault Refusal :=
  s.run (State.event (fun e w => World.stationReady e (w.hear station) station))

/-- A HOLD heard (R178, R186). -/
def execStationHold (station : Fin 6) (s : State) : Host.Outcome State Fault Refusal :=
  s.run (State.event (fun e w => World.stationHold e (w.hear station) station))

/-- A CALL heard (R178, R187). -/
def execStationCall (station : Fin 6) (s : State) : Host.Outcome State Fault Refusal :=
  s.run (State.event (fun e w => World.callHeard e (w.hear station) station))

/-- Any other frame from a station (R178, R212). -/
def execStationFrameDiscard (station : Fin 6) (bytes : List Byte) (s : State) : Host.Outcome State Fault Refusal :=
  s.run (State.stationFrame station bytes)

/-- A station's third missed boundary taken (R178, R179). -/
def execStationAbsent (station : Fin 6) (s : State) : Host.Outcome State Fault Refusal :=
  s.run (State.absentTest station)

end Sys2Proof.Machine
end

