-- ==== Sys2Proof/Machine/Resets.lean ====
section
/-! DEFINITION. The two resets (R2, R3, R71, R94, R142, R160, R177, R191, R207, R208, Reset summary). -/
namespace Sys2Proof.Machine

/-- Power-on reset: every block as `Dev.reset` gives it. The levels on the input pins, the count of free values and the queue of
commands are not the part's to reset (log 18). -/
def State.powerOn (s : State) : State := { s with ctl := .reset, dev := .reset }

/-- The store after warm reset: every record in use freed, the allocation counts kept (R2, R3). -/
def Store.warm (s : Store) : Store :=
  { items := [], freeItems := s.freeItems ++ s.items.map (·.ref)
    freeElements := s.freeElements ++ s.items.flatMap (fun it => it.elements.map (·.ref))
    orders := Tbl.fill 4 [], standbys := Tbl.fill 4 none }

/-- The Reference Unit after warm reset (R71). -/
def RefUnit.warm (r : RefUnit) : RefUnit := { r with mismatch := 0, pendingLabel := none }

/-- The settings after warm reset: those of the lanes and of the Monitor at their defaults, those of the ports and of ATTN kept (R94,
R160, R191, R207). -/
def Settings.warm (c : Settings) : Settings :=
  { c with
    lanes := Tbl.fill 4 .default, hardOuts := Tbl.fill 4 none, thresh := Tbl.fill 4 .default
    levels := Tbl.fill 4 (Tbl.fill 7 0) }

/-- A map entry after warm reset (R142). -/
def MapEntry.warm (m : MapEntry) : MapEntry := { m with claim := none, waiters := [] }

/-- A station record after warm reset (R177). -/
def Station.warm (s : Station) : Station := { Station.reset with lane := s.lane, present := s.present }

/-- The three messages that bring a PRESENT station into step after warm reset (R177). -/
def World.stepIn (w : World) (st : Fin 6) : World :=
  if (w.stations.get st).present then ((w.sendClearStandby st).sendClearGo st).sendCall st false else w

/-- The blocks after warm reset, before the Monitor's judgement. -/
def World.warm (fc : Fc) (w : World) : World :=
  { store := w.store.warm, lanes := Tbl.fill 4 .reset, timing := Tbl.fill 4 (.empty fc), map := w.map.map MapEntry.warm
    rolls := Tbl.fill 64 none, ports := w.ports.map Port.warm, stations := w.stations.map Station.warm
    monitor := .reset, pulse := { phase := .idle, pending := 0 }, due := Tbl.fill 4 .clear, loads := w.loads, out := w.out }

/-- The part after warm reset, the state conditions judged from what was kept (R191). -/
def Dev.warm (d : Dev) : Dev :=
  let env : Env := { ref := d.env.ref.warm, cfg := d.env.cfg.warm }
  let world := (places 6).foldl World.stepIn (d.world.warm env.ref.fc)
  Dev.settle { env, world }

/-- RESET_N falls: warm reset (R208). RESET_N that is low already has no edge. -/
def State.warm (s : State) : State :=
  if s.pins.reset then s
  else { s with ctl := .reset, dev := s.dev.warm, pins := { s.pins with reset := true } }

/-- RESET_N rises: the control port takes transactions again (R208). -/
def State.release (s : State) : State := { s with pins := { s.pins with reset := false } }

/-! ### The commands -/

/-- Power-on reset (Reset summary). -/
def execPowerOnReset (s : State) : Host.Outcome State Fault Refusal :=
  s.run State.powerOn

/-- Warm reset (R208, Reset summary). -/
def execWarmReset (s : State) : Host.Outcome State Fault Refusal :=
  s.run State.warm

/-- RESET_N rises (R208). -/
def execResetNRelease (s : State) : Host.Outcome State Fault Refusal :=
  s.run State.release

end Sys2Proof.Machine
end

