-- ==== Sys2Proof/Machine/Dispatch.lean ====
section
/-! DEFINITION. The dispatch: one arm for each command, each one call of its meaning. -/
namespace Sys2Proof.Machine
def exec (i : Instr) (s : State) : Host.Outcome State Fault Refusal :=
  match i with
  | .powerOnReset => Sys2Proof.Machine.execPowerOnReset s
  | .warmReset => Sys2Proof.Machine.execWarmReset s
  | .statusTransaction code further => Sys2Proof.Machine.execStatusTransaction code further s
  | .writeTransaction bytes => Sys2Proof.Machine.execWriteTransaction bytes s
  | .readTransaction clocked => Sys2Proof.Machine.execReadTransaction clocked s
  | .unknownRequest => Sys2Proof.Machine.execUnknownRequest s
  | .insert => Sys2Proof.Machine.execInsert s
  | .amend => Sys2Proof.Machine.execAmend s
  | .move => Sys2Proof.Machine.execMove s
  | .float => Sys2Proof.Machine.execFloat s
  | .restore => Sys2Proof.Machine.execRestore s
  | .kill => Sys2Proof.Machine.execKill s
  | .retire => Sys2Proof.Machine.execRetire s
  | .addel => Sys2Proof.Machine.execAddel s
  | .setel => Sys2Proof.Machine.execSetel s
  | .delel => Sys2Proof.Machine.execDelel s
  | .stamp => Sys2Proof.Machine.execStamp s
  | .scan => Sys2Proof.Machine.execScan s
  | .getitem => Sys2Proof.Machine.execGetitem s
  | .getel => Sys2Proof.Machine.execGetel s
  | .list => Sys2Proof.Machine.execList s
  | .timing => Sys2Proof.Machine.execTiming s
  | .rate => Sys2Proof.Machine.execRate s
  | .refcfg => Sys2Proof.Machine.execRefcfg s
  | .clockset => Sys2Proof.Machine.execClockset s
  | .clockread => Sys2Proof.Machine.execClockread s
  | .hardout => Sys2Proof.Machine.execHardout s
  | .subst => Sys2Proof.Machine.execSubst s
  | .start => Sys2Proof.Machine.execStart s
  | .stop => Sys2Proof.Machine.execStop s
  | .take => Sys2Proof.Machine.execTake s
  | .hold => Sys2Proof.Machine.execHold s
  | .resume => Sys2Proof.Machine.execResume s
  | .lanecfg => Sys2Proof.Machine.execLanecfg s
  | .clearlane => Sys2Proof.Machine.execClearlane s
  | .map => Sys2Proof.Machine.execMap s
  | .side => Sys2Proof.Machine.execSide s
  | .portcfg => Sys2Proof.Machine.execPortcfg s
  | .porten => Sys2Proof.Machine.execPorten s
  | .portreset => Sys2Proof.Machine.execPortreset s
  | .station => Sys2Proof.Machine.execStation s
  | .call => Sys2Proof.Machine.execCall s
  | .answer => Sys2Proof.Machine.execAnswer s
  | .thresh => Sys2Proof.Machine.execThresh s
  | .actions => Sys2Proof.Machine.execActions s
  | .condread => Sys2Proof.Machine.execCondread s
  | .attncfg => Sys2Proof.Machine.execAttncfg s
  | .attnPulseTimer => Sys2Proof.Machine.execAttnPulseTimer s
  | .internalSourceExpiry => Sys2Proof.Machine.execInternalSourceExpiry s
  | .referencePulse since label => Sys2Proof.Machine.execReferencePulse since label s
  | .missingPulseTimer => Sys2Proof.Machine.execMissingPulseTimer s
  | .panelTake lane => Sys2Proof.Machine.execPanelTake lane s
  | .panelHold lane => Sys2Proof.Machine.execPanelHold lane s
  | .gateTimeout lane => Sys2Proof.Machine.execGateTimeout lane s
  | .lastTakeClear lane => Sys2Proof.Machine.execLastTakeClear lane s
  | .cueFrameReceived port bytes => Sys2Proof.Machine.execCueFrameReceived port bytes s
  | .ack port => Sys2Proof.Machine.execAck port s
  | .nak port => Sys2Proof.Machine.execNak port s
  | .endNotice port => Sys2Proof.Machine.execEndNotice port s
  | .receivedMessageDiscard port => Sys2Proof.Machine.execReceivedMessageDiscard port s
  | .ackTimeout port => Sys2Proof.Machine.execAckTimeout port s
  | .probeTimer port => Sys2Proof.Machine.execProbeTimer port s
  | .alive station => Sys2Proof.Machine.execAlive station s
  | .ready station => Sys2Proof.Machine.execReady station s
  | .stationHold station => Sys2Proof.Machine.execStationHold station s
  | .stationCall station => Sys2Proof.Machine.execStationCall station s
  | .stationFrameDiscard station bytes => Sys2Proof.Machine.execStationFrameDiscard station bytes s
  | .stationAbsent station => Sys2Proof.Machine.execStationAbsent station s
  | .panelLineRelease lane line => Sys2Proof.Machine.execPanelLineRelease lane line s
  | .resetNRelease => Sys2Proof.Machine.execResetNRelease s
end Sys2Proof.Machine
end

