-- ==== Sys2Proof/Safety.lean ====
section
/-! DEFINITION. The terms in which claims about the part are stated: a request that waits and what its service leaves, what of a
record the part's own operation never writes, and the invariants that every command keeps. -/
namespace Sys2Proof.Machine

/-! ### Requests -/

/-- The kind value of a command that is a request of the control port (R210). -/
def requestKind : Instr → Option Byte
  | .insert => some 0x10#8
  | .amend => some 0x11#8
  | .move => some 0x12#8
  | .float => some 0x13#8
  | .restore => some 0x14#8
  | .kill => some 0x15#8
  | .retire => some 0x16#8
  | .addel => some 0x18#8
  | .setel => some 0x19#8
  | .delel => some 0x1A#8
  | .stamp => some 0x1B#8
  | .scan => some 0x1C#8
  | .getitem => some 0x20#8
  | .getel => some 0x21#8
  | .list => some 0x22#8
  | .timing => some 0x23#8
  | .rate => some 0x30#8
  | .refcfg => some 0x31#8
  | .clockset => some 0x32#8
  | .clockread => some 0x33#8
  | .hardout => some 0x38#8
  | .subst => some 0x39#8
  | .start => some 0x40#8
  | .stop => some 0x41#8
  | .take => some 0x42#8
  | .hold => some 0x43#8
  | .resume => some 0x44#8
  | .lanecfg => some 0x45#8
  | .clearlane => some 0x46#8
  | .map => some 0x50#8
  | .side => some 0x51#8
  | .portcfg => some 0x58#8
  | .porten => some 0x59#8
  | .portreset => some 0x5A#8
  | .station => some 0x60#8
  | .call => some 0x61#8
  | .answer => some 0x62#8
  | .thresh => some 0x68#8
  | .actions => some 0x69#8
  | .condread => some 0x6A#8
  | .attncfg => some 0x70#8
  | _ => none

/-- A request of the kind `kind` stands at the head of the request queue under the tag `tag`, with the payload `payload` and the
requests `rest` behind it, and the response queue has room for its response (R203, R204). -/
def State.Asks (s : State) (kind tag : Byte) (payload : List Byte) (rest : List Request) : Prop :=
  s.ctl.responses.length < 4 ∧
    ∃ length : Byte, length.toNat ≤ 60 ∧ s.ctl.requests = { kind, tag, length, payload } :: rest

/-- The part as a command finds it, with nothing driven yet on its output pins. -/
def State.begun (s : State) : Dev := s.quiet.dev

/-- What the service of the request at the head leaves: the requests behind it, the part `d`, and the response with its tag, status
and payload behind those that waited (R204); a pulse that has come due begins (R206). -/
def State.replied (s : State) (rest : List Request) (tag : Byte) (d : Dev) (status : Status) (payload : List Byte) : State :=
  State.drivePulse { s with
    dev := d
    ctl := { s.ctl with
      requests := rest
      responses := s.ctl.responses ++ [{ tag, status := BitVec.ofNat 8 status.code, payload }] } }

/-- A key that a request may name as a place in a lane's order: 0, or that of an ORDER item of the lane (R47, R51, R52). -/
def Store.standsIn (s : Store) (l : Fin 4) (k : Nat) : Prop :=
  k = 0 ∨ ∃ it, s.item? k = some it ∧ it.lane = l ∧ it.place = .order

/-! ### What the part's own operation never writes -/

/-- An item with its operating fields, but for the disposition, at the values of an insertion (R10, R21): what is left is what only
the host's edits write (R18), the records the item and its elements stand on, and the disposition. -/
def Item.content (it : Item) : Item :=
  { it with
    state := .pending, elements := it.elements.map Element.renew, start := none, actual := none, effPlanned := none
    proposed := false }

/-- An item but for its state and the operating fields of its elements: what else of it an edit leaves in place (R15, R18, R21). -/
def Item.record (it : Item) : Item := { it with state := .pending, elements := it.elements.map Element.renew }

/-- The records of the items in use, but for their states and the operating fields of their elements. -/
def Store.records (s : Store) : List Item := s.items.map Item.record

/-- The contents of the items in use. -/
def Store.contents (s : Store) : List Item := s.items.map Item.content

/-- A lane record without the lists that its working fills and empties: load list, cue list, fire queue with the pass count, and the
entries of deferred loads. -/
def LaneRec.standing (r : LaneRec) : LaneRec :=
  { r with loadList := [], cueList := [], fireQueue := [], passCount := 0, deferred := [] }

/-- A lane record without what an edit may change in it: its lists, its cursor and NEXT, and GATE with its due point and the state
that follows it, of which only whether the lane is IDLE is left (R8, R22, R97, R112). -/
def LaneRec.kept (r : LaneRec) : LaneRec :=
  { r.standing with
    state := if r.state = .idle then .idle else .standby, cursor := none, next := none, gate := false, gateDue := none }

/-- A port record without what its arbiter moves: FIFOs, priority slot, burst run, window and next seq. -/
def Port.standing (p : Port) : Port :=
  { p with fifos := Tbl.fill 4 [], priority := [], burst := none, window := [], nextSeq := 0 }

/-- A station record without its slots and waiting list. -/
def Station.standing (s : Station) : Station := { s with standby := none, waiting := [], go := none }

/-- A map entry without its active side, claim and waiters. -/
def MapEntry.service (m : MapEntry) : MapEntry := { m with active := .main, claim := none, waiters := [] }

/-- What `w'` keeps of `w` where only the lanes `ls` were acted on: the other lanes, and of every port, station and map entry what
the blocks' working does not write; the timing results, the condition table, the pulse driver and SDO. -/
def World.Keeps (w w' : World) (ls : List (Fin 4)) : Prop :=
  (∀ l, l ∉ ls → (w'.lane l).standing = (w.lane l).standing) ∧
  (∀ p, (w'.ports.get p).standing = (w.ports.get p).standing) ∧
  (∀ st, (w'.stations.get st).standing = (w.stations.get st).standing) ∧
  (∀ d, (w'.map.get d).service = (w.map.get d).service) ∧
  w'.timing = w.timing ∧ w'.monitor = w.monitor ∧ w'.pulse = w.pulse ∧ w'.out.sdo = w.out.sdo

/-- The lane `l` of `w'` has taken `it`, the NEXT item of `w`: it is on air under the cursor with its start and effective planned, the
ORDER item that was on air is DONE or freed by retention, the last take is set, GATE is clear and the state follows the
held-by flags (R15 to R17, R95, R104, R105). -/
def World.Took (e : Env) (w w' : World) (l : Fin 4) (it : Item) : Prop :=
  (w'.lane l).onAir = some it.key ∧ (w'.lane l).cursor = some it.key ∧ (w'.lane l).next ≠ some it.key ∧
  (w'.lane l).lastTake = some e.now ∧ (w'.lane l).gate = false ∧ (w'.lane l).gateDue = none ∧
  (w'.lane l).operator = (w.lane l).operator ∧ (w'.lane l).action = (w.lane l).action ∧
  (it.place = .order → (w'.lane l).state =
    if (w.lane l).operator = true ∨ (w.lane l).action = true then .held else .running) ∧
  (∃ it', w'.item? it.key = some it' ∧ it'.content = it.content ∧ it'.state = .onAir ∧ it'.proposed = false ∧
    it'.start = some { fs := e.ref.fc, label := e.ref.rate.label e.ref.t } ∧
    it'.effPlanned = some (match it.absorber, (w.timing.get l).absorber with
      | none, _ => it.planned
      | some a, some (k, peff) => if k = it.key then peff else max a.min (min a.max it.planned)
      | some a, none => max a.min (min a.max it.planned))) ∧
  (∀ k old old', (w.lane l).onAir = some k → w.item? k = some old → old.place = .order → w'.item? k = some old' →
    old'.state = .done ∧ old'.actual = some (min (old.elapsed e) 1048575) ∧ old'.effPlanned = none) ∧
  w.Keeps w' [l]

/-- The lane `l` of `w'` has put its standby item `it` to air in place of NEXT: the lane is FILLING, the ORDER item that was on air is DONE
or freed by retention, the cursor stays where an item still stands, NEXT is the first included item, the last take is set and GATE
is clear (R15, R97, R109). -/
def World.Filled (e : Env) (w w' : World) (l : Fin 4) (it : Item) : Prop :=
  (w'.lane l).onAir = some it.key ∧ (w'.lane l).state = .filling ∧ (w'.lane l).lastTake = some e.now ∧
  (w'.lane l).gate = false ∧ (w'.lane l).gateDue = none ∧ (w'.lane l).operator = (w.lane l).operator ∧
  (w'.lane l).action = (w.lane l).action ∧
  (∀ k, (w.lane l).cursor = some k → (w'.item? k).isSome → (w'.lane l).cursor = some k) ∧
  (w'.lane l).next = ((w'.store.included l (w'.lane l).cursor).head?).map (·.key) ∧
  (∃ it', w'.item? it.key = some it' ∧ it'.content = it.content ∧ it'.state = .onAir ∧
    it'.start = some { fs := e.ref.fc, label := e.ref.rate.label e.ref.t } ∧ it'.effPlanned = some it.planned) ∧
  (∀ k old old', (w.lane l).onAir = some k → w.item? k = some old → old.place = .order → w'.item? k = some old' →
    old'.state = .done ∧ old'.actual = some (min (old.elapsed e) 1048575) ∧ old'.effPlanned = none) ∧
  w.Keeps w' [l]

/-! ### Invariants -/

/-- The store holds each key once, and its item and element records, in use and free together, are the 512 and the 4,096 records of
its pools, each once (R1, R4). -/
def Store.Ok (s : Store) : Prop :=
  (s.items.map (·.key)).Nodup ∧
  ((s.items.map (·.ref) ++ s.freeItems).map (·.num)).Perm (List.range 512) ∧
  ((s.items.flatMap (fun it => it.elements.map (·.ref)) ++ s.freeElements).map (·.num)).Perm (List.range 4096)

/-- Every item stands in one place: an ORDER item once in the order of its lane, a STANDBY item as the standby item of its lane, and
nothing else stands there (R5, R6, R7). -/
def Store.Placed (s : Store) : Prop :=
  (∀ l, (s.orders.get l).Nodup) ∧
  (∀ l k, k ∈ s.orders.get l ↔ ∃ it ∈ s.items, it.key = k ∧ it.lane = l ∧ it.place = .order) ∧
  (∀ l k, s.standbys.get l = some k ↔ ∃ it ∈ s.items, it.key = k ∧ it.lane = l ∧ it.place = .standby)

/-- A port record holds no more than its queues have room for, with the seqs of its window distinct (R159, R165); a port that is not
IN_SERVICE holds no lane message and one that is FAULTED at most one PROBE (R162, R163, R169); a DOWN port holds nothing
(R174); the probe start is present in FAULTED alone (R159). -/
def Port.Ok (p : Port) : Prop :=
  (∀ l, (p.fifos.get l).length ≤ 4) ∧ p.priority.length ≤ 8 ∧ p.window.length ≤ 4 ∧ p.received.length ≤ 4 ∧
  (p.window.map (·.seq)).Nodup ∧
  (p.state ≠ .inService → ∀ l, p.fifos.get l = []) ∧
  (p.state = .inService → CueMsg.probe ∉ p.priority) ∧
  (p.state = .faulted → p.priority = [] ∨ p.priority = [.probe]) ∧
  (p.state = .down → p.priority = [] ∧ p.window = [] ∧ p.received = []) ∧
  (p.probeStart.isSome ↔ p.state = .faulted)

/-- A map entry without a claim has no waiters; a claim has a user, and its holder does not wait; no lane waits twice; an entry that
is not PLAYOUT holds no claim (R141, R146). -/
def MapEntry.Ok (m : MapEntry) : Prop :=
  m.waiters.Nodup ∧ (m.claim = none → m.waiters = []) ∧ (∀ c, m.claim = some c → c.lane ∉ m.waiters ∧ c.users ≠ []) ∧
  (m.cls = .graphics → m.claim = none) ∧ (m.valid = false → m.claim = none)

/-- An IDLE lane has nothing on air, no NEXT and no held-by flag (R95, R96, R116). -/
def LaneRec.Ok (r : LaneRec) : Prop :=
  r.state = .idle →
    r.onAir = none ∧ r.next = none ∧ r.operator = false ∧ r.action = false ∧ r.gate = false ∧ r.gateDue = none

/-- The Reference Unit's counts are in range, its missing-pulse timer runs out of FREE_RUN and its internal source out of LOCKED
alone, the acquisition count fits the state, and a disabled reference is in FREE_RUN (R55 to R60, R65, R67). -/
def RefUnit.Ok (r : RefUnit) : Prop :=
  r.t < r.rate.day ∧ 1 ≤ r.slipCount ∧ r.slipCount ≤ 15 ∧ r.mismatch ≤ 15 ∧
  (r.missingTimer = true ↔ r.state ≠ .freeRun) ∧ (r.internal.isSome ↔ r.state ≠ .locked) ∧
  (r.state = .freeRun → r.acquired = 0) ∧ (r.state = .acquiring → r.acquired ≤ 15) ∧
  (r.state = .locked → r.acquired = 16) ∧ (r.enabled = false → r.state = .freeRun)

/-- Neither queue of the control port holds more than four (R203, R204). -/
def ControlPort.Ok (c : ControlPort) : Prop := c.requests.length ≤ 4 ∧ c.responses.length ≤ 4

end Sys2Proof.Machine
end

