-- ==== Sys2Proof/WellFormed.lean ====
section
/-! DEFINITION. Which commands are well formed: the operands that a type alone does not bound. -/
namespace Sys2Proof

/-- Each field of a label fits the byte that carries it (R210). -/
def Label.fitsBytes (l : Label) : Bool :=
  decide (l.hh < 256) && decide (l.mm < 256) && decide (l.ss < 256) && decide (l.ff < 256)

/-- A status transaction's code is neither 5A nor A5, which begin the other two (R202); a reference label fits its four bytes;
a discarded station frame is not one of the four station messages (R178, R212). -/
def Instr.WellFormed : Instr → Bool
  | .statusTransaction (some c) _ => c != 0x5A#8 && c != 0xA5#8
  | .referencePulse _ (some l) => l.fitsBytes
  | .stationFrameDiscard _ bytes => !Machine.isStationMessage bytes
  | _ => true

end Sys2Proof
end

