-- ==== Sys2Proof/Certificates/Slice0/Obligations.lean ====
section
/-! DEFINITION. The statements: what each command does, what it leaves, and what every command keeps. Where a request is served, `d`
is the part as the request's own work leaves it; what that makes due is done in the same event (`Dev.settle`), and
SettlingKeepsWhatItDoesNotOwn says what that leaves alone. -/
open Sys2Proof Sys2Proof.Machine

/-! ### The queue of commands and the service of requests -/

/-- A step is the command at the front of the queue, on the queue's rest; with no command waiting the part idles, which is the model's
choice (log 2). -/
def Obligations.StepRunsTheFrontCommand : Prop :=
  (∀ (c : Instr) (rest : List Instr) (s : State), s.pending = c :: rest → step s = exec c { s with pending := rest }) ∧
  (∀ s : State, s.pending = [] → step s = .next s)

/-- Every command answers a next state in every state; none touches the queue of commands, and the levels of the input pins change
only by the commands that are their edges. That a row which the part would not perform there answers next all the same, and that
power-on reset leaves pins and waiting commands, is the model's choice (log 1, 18). -/
def Obligations.EveryCommandAnswersNext : Prop :=
  ∀ (c : Instr) (s : State), ∃ t, exec c s = .next t ∧ t.pending = s.pending ∧
    (match c with
     | .panelTake l => t.pins = s.pins.line l .take true
     | .panelHold l => t.pins = s.pins.line l .hold true
     | .panelLineRelease l line => t.pins = s.pins.line l line false
     | .warmReset => t.pins = { s.pins with reset := true }
     | .resetNRelease => t.pins = { s.pins with reset := false }
     | _ => t.pins = s.pins)

/-- The request at the head is answered once, under its tag, when the response queue has room (R204); a refused one leaves the part as
it was, and so do SCAN and the lookups whatever they answer; a length above 60 is refused with BAD_ARG; a kind that names no
request is answered UNKNOWN. A row whose kind is not the head's does nothing: the model's choice (log 1). -/
def Obligations.RequestsAreAnsweredUnderTheirTag : Prop :=
  (∀ (c : Instr) (k : Byte) (s : State) (r : Request) (rest : List Request), requestKind c = some k →
    s.ctl.requests = r :: rest → r.kind = k → s.ctl.responses.length < 4 →
    ∃ d st payload, exec c s = .next (s.replied rest r.tag d st payload) ∧
      (st ≠ .ok → d = s.begun ∧ payload = []) ∧ (60 < r.length.toNat → st = .badArg) ∧
      (c ∈ [Instr.scan, .getitem, .getel, .list, .timing, .clockread] → d = s.begun)) ∧
  (∀ (s : State) (r : Request) (rest : List Request), s.ctl.requests = r :: rest → s.ctl.responses.length < 4 →
    (∀ c, requestKind c ≠ some r.kind) →
    exec .unknownRequest s = .next (s.replied rest r.tag s.begun .unknown [])) ∧
  (∀ (c : Instr) (k : Byte) (s : State), requestKind c = some k →
    (∀ r rest, s.ctl.requests = r :: rest → r.kind ≠ k ∨ 4 ≤ s.ctl.responses.length) →
    exec c s = .next s.quiet.drivePulse)

/-- GETITEM, GETEL, LIST, TIMING and CLOCKREAD return what they name, LIST and TIMING the cursor among it; the layouts spelled out (the
byte that says passed, included or neither, an end mode with its index, the clock's three bytes, its optional label, the cursor at
the end of TIMING) and that GETEL carries no load failure are the model's choice (R8, R49 to R52, R69, log 4, 51). -/
def Obligations.LookupsReturnTheRecords : Prop :=
  (∀ s tag p rest k it, s.Asks 0x20#8 tag p rest → readAll (readNat 2) p = some k → k ≠ 0 →
    s.dev.world.item? k = some it →
    let live := (it.state = .pending ∨ it.state = .next) ∧ it.disposition = .inOrder ∧ it.place = .order
    let below := belowCursor (s.dev.world.store.orders.get it.lane) (s.dev.world.lane it.lane).cursor
    let standing := if live then (if it.key ∈ below then 1 else 0) else 2
    let endClip := match it.endMode with
      | .manual => be 1 0
      | .timed => be 1 1
      | .clip j => be 1 2 ++ be 1 j
    let onAir := match it.state with
      | .done => it.actual
      | .onAir => some (it.elapsed s.dev.env)
      | _ => none
    let failed := (it.elements.filter (fun el => decide (el.fire = .failed ∨ el.fire = .skipped))).length
    exec .getitem s = .next (s.replied rest tag s.begun .ok
      (be 2 it.key ++ be 1 it.lane.val ++ be 1 it.place.code ++ (be 1 it.label.length ++ it.label) ++ be 1 it.state.code ++
        be 1 it.disposition.code ++ be 1 standing ++ duration it.planned ++ endClip ++ be 1 it.dropPriority ++
        optional (fun a => duration a.min ++ duration a.max) it.absorber ++
        optional (fun c => be 1 c.first ++ be 1 c.last ++ duration c.period) it.cycle ++ be 1 it.elements.length ++
        optional (fun x => be 4 x.fs.toNat ++ labelBytes x.label) it.start ++ optional duration onAir ++
        optional duration it.effPlanned ++ be 1 failed ++ flag it.proposed ++ be 1 it.rev.toNat))) ∧
  (∀ s tag p rest k i it el, s.Asks 0x21#8 tag p rest → readAll readDelel p = some (k, i) → k ≠ 0 →
    s.dev.world.item? k = some it → it.elements[i]? = some el →
    let content := match el.content with
      | .clip dev clip => be 1 0 ++ be 1 dev.val ++ duration el.offset ++ be 4 clip.toNat
      | .clipStop dev => be 1 1 ++ be 1 dev.val ++ duration el.offset
      | .gfxIn dev template dat => be 1 2 ++ be 1 dev.val ++ duration el.offset ++ be 2 template.toNat ++ be 4 dat.toNat
      | .gfxOut dev template => be 1 3 ++ be 1 dev.val ++ duration el.offset ++ be 2 template.toNat
      | .cue st lead gating => be 1 4 ++ be 1 st.val ++ duration el.offset ++ be 2 lead ++ flag gating
    let load := if el.content.isClip = true then be 1 el.load.code else []
    let isEnd := decide (it.state = .onAir ∧ it.endMode = .clip i)
    exec .getel s = .next (s.replied rest tag s.begun .ok
      (be 1 i ++ content ++ be 1 el.fire.code ++ load ++ optional (fun r => be 1 r.code) el.failReason ++ flag el.late ++
        be 1 (min 255 el.pass.toNat) ++ flag isEnd))) ∧
  (∀ s tag p rest n l k, s.Asks 0x22#8 tag p rest → readAll readLaneKey p = some (n, k) → place? 4 n = some l →
    s.dev.world.store.standsIn l k →
    ∃ entries nextKey, exec .list s = .next (s.replied rest tag s.begun .ok
        (entries ++ nextKey ++ be 2 (s.dev.world.store.orders.get l).length ++ keyBytes (s.dev.world.lane l).cursor ++
          keyBytes (s.dev.world.lane l).onAir ++ keyBytes (s.dev.world.lane l).next ++
          keyBytes (s.dev.world.store.standbys.get l) ++ be 1 (s.dev.world.lane l).state.code ++
          be 2 s.dev.world.store.freeItems.length ++ be 2 s.dev.world.store.freeElements.length)) ∧
      entries = listBytes (s.dev.listEntry l)
        ((s.dev.world.store.itemsOf (fromKey (s.dev.world.store.orders.get l) k)).take 16) ∧
      nextKey = keyBytes ((fromKey (s.dev.world.store.orders.get l) k).drop 16).head?) ∧
  (∀ s tag p rest n l k, s.Asks 0x23#8 tag p rest → readAll readLaneKey p = some (n, k) → place? 4 n = some l →
    s.dev.world.store.standsIn l k →
    ∃ tail, exec .timing s = .next (s.replied rest tag s.begun .ok
        (be 4 (s.dev.world.timing.get l).computedAt.toNat ++ optional signed (s.dev.world.timing.get l).overA ++
          optional signed (s.dev.world.timing.get l).rawOver ++ optional signed (s.dev.world.timing.get l).residual ++
          tail)) ∧
      tail = optional (fun a => be 2 a.1 ++ duration a.2) (s.dev.world.timing.get l).absorber ++
        be 1 (s.dev.env.cfg.lanes.get l).fitMode.code ++ flag (s.dev.env.cfg.lanes.get l).substitute.isSome ++
        optional labelBytes ((s.dev.env.cfg.hardOuts.get l).map (·.label)) ++
        listBytes s.dev.timingEntry (((s.dev.world.timing.get l).items.filter
          (fun x => (fromKey (s.dev.world.store.orders.get l) k).contains x.key)).take 8) ++
        keyBytes (s.dev.world.lane l).cursor) ∧
  (∀ s tag rest, s.Asks 0x33#8 tag [] rest →
    exec .clockread s = .next (s.replied rest tag s.begun .ok
      (be 3 s.dev.env.ref.t ++ labelBytes (s.dev.env.ref.rate.label s.dev.env.ref.t) ++ be 4 s.dev.env.ref.fc.toNat ++
        be 1 s.dev.env.ref.rate.code ++ be 1 s.dev.env.ref.state.code ++ be 1 s.dev.env.ref.acquired ++
        flag s.dev.env.ref.enabled ++ flag s.dev.env.ref.labelCheck ++ be 1 s.dev.env.ref.slipCount ++
        be 1 s.dev.env.ref.mismatch ++ flag s.dev.env.ref.pendingLabel.isSome ++
        optional labelBytes s.dev.env.ref.pendingLabel)))

/-- SCAN counts the items from the from key down that meet its test, and stops at the first that does not, at its maximum or at the
bottom of the order (R47). -/
def Obligations.ScanCountsAConsecutiveRun : Prop :=
  ∀ s tag p rest q l, s.Asks 0x1C#8 tag p rest → readAll readScan p = some q → place? 4 q.lane = some l →
    s.dev.world.store.standsIn l q.start →
    ∃ run stop reason, exec .scan s = .next (s.replied rest tag s.begun .ok (be 2 run ++ be 2 stop ++ be 1 reason)) ∧
      let items := s.dev.world.store.itemsOf (fromKey (s.dev.world.store.orders.get l) q.start)
      let meets := fun it => q.property.holds s.dev.world.store (s.dev.world.lane l).cursor it != q.lack
      let most := min 512 (max 1 q.maximum)
      (∀ it ∈ items.take run, meets it = true) ∧ run ≤ items.length ∧
      ((reason = 0 ∧ run < most ∧ ∃ it, items[run]? = some it ∧ meets it = false ∧ stop = it.key) ∨
       (reason = 1 ∧ run = most ∧ stop = (items[run]?).elim 0 (·.key)) ∨
       (reason = 2 ∧ run < most ∧ run = items.length ∧ stop = 0))

/-! ### Whole-machine rules and resets -/

/-- No command but a frame arrival's source and power-on reset changes the frame counter, and a source advances it by one at the
most (R53, R54). -/
def Obligations.OnlyFrameArrivalsMoveTheFrameCounter : Prop :=
  ∀ (c : Instr) (s t : State), exec c s = .next t →
    (match c with
     | .internalSourceExpiry | .referencePulse _ _ | .missingPulseTimer =>
       t.dev.env.ref.fc = s.dev.env.ref.fc ∨ t.dev.env.ref.fc = s.dev.env.ref.fc + 1
     | .powerOnReset => t.dev.env.ref.fc = 0
     | _ => t.dev.env.ref.fc = s.dev.env.ref.fc)

/-- Power-on reset leaves every block at the values the resets' rules state, whatever the part held; the input pins, the count of free
values and the commands that wait are not the part's to reset, which is the model's choice (log 18). -/
def Obligations.PowerOnResetLeavesTheStatedValues : Prop :=
  (∀ s : State, exec .powerOnReset s =
    .next { State.reset with pins := s.pins, free := s.free, pending := s.pending }) ∧
  (let d := State.reset.dev
   State.reset.ctl = ⟨[], [], false⟩ ∧
   d.world.store.items = [] ∧ d.world.store.freeItems.length = 512 ∧ d.world.store.freeElements.length = 4096 ∧
   (∀ l, d.world.store.orders.get l = [] ∧ d.world.store.standbys.get l = none) ∧
   d.env.ref.fc = 0 ∧ d.env.ref.t = 0 ∧ d.env.ref.rate = .r25 ∧ d.env.ref.state = .freeRun ∧ d.env.ref.acquired = 0 ∧
   d.env.ref.internal = some .powerOn ∧ d.env.ref.enabled = false ∧ d.env.ref.labelCheck = false ∧
   d.env.ref.slipCount = 3 ∧ d.env.ref.mismatch = 0 ∧ d.env.ref.pendingLabel = none ∧
   (∀ l, d.env.cfg.lanes.get l =
     { fitMode := .off, lockWindow := 250, lateTolerance := 2, takeGuard := 10, doneRetain := 16, gateTimeout := 0,
       noNextWarn := 250, safeList := [], substitute := none }) ∧
   (∀ l, d.env.cfg.hardOuts.get l = none) ∧
   (∀ p, d.env.cfg.ports.get p =
     { ackTimeout := 5, faultThreshold := 3, recoverCount := 3, probeInterval := 25, burstLimit := 2,
       precedence := [0, 1, 2, 3] }) ∧
   (∀ l, d.env.cfg.thresh.get l = { overT := 50, underT := 250, count := 2, hysteresis := 25 }) ∧
   (∀ l i, (d.env.cfg.levels.get l).get i = 0) ∧ d.env.cfg.attnMask = 0xFFF#12 ∧ d.env.cfg.attnMode = .level ∧
   (∀ l, d.world.lane l = LaneRec.reset) ∧ (∀ n, (d.world.map.get n).valid = false) ∧
   (∀ p, (d.world.ports.get p).state = .down ∧ (d.world.ports.get p).nextSeq = 0) ∧
   (∀ st, d.world.stations.get st =
     { lane := none, present := false, missed := 0, heard := false, standby := none, waiting := [], go := none,
       callFrom := false, callTo := false, thirdMiss := false }) ∧
   d.world.monitor.causes = 0 ∧ State.reset.attn = false ∧ State.reset.statusByte = 0x80#8)

/-- Warm reset empties the store and every lane, keeps the clock, the map and the ports' settings, and leaves REF_LOST and STATION_LOST
judged from what was kept; RESET_N that is low already has no edge. A PRESENT station is sent CLEAR_STANDBY, CLEAR_GO and CALL_OFF,
in that order, and no other station anything. In what order the freed records join the pools is the model's choice (R3, R71, R94,
R142, R160, R177, R191, R207, R208, log 20). -/
def Obligations.WarmResetKeepsTheClockAndTheMap : Prop :=
  (∀ s : State, s.pins.reset = true → exec .warmReset s = .next s.quiet) ∧
  (∀ s : State, s.pins.reset = false → ∃ t, exec .warmReset s = .next t ∧
    t.pins = { s.pins with reset := true } ∧ t.ctl = ⟨[], [], false⟩ ∧
    t.dev.world.store.items = [] ∧
    t.dev.world.store.freeItems = s.dev.world.store.freeItems ++ s.dev.world.store.items.map (·.ref) ∧
    t.dev.world.store.freeElements =
      s.dev.world.store.freeElements ++ s.dev.world.store.items.flatMap (fun it => it.elements.map (·.ref)) ∧
    (∀ l, t.dev.world.store.orders.get l = [] ∧ t.dev.world.store.standbys.get l = none ∧
      t.dev.world.lane l = LaneRec.reset ∧ t.dev.env.cfg.lanes.get l = State.reset.dev.env.cfg.lanes.get l ∧
      t.dev.env.cfg.hardOuts.get l = none ∧ t.dev.env.cfg.thresh.get l = State.reset.dev.env.cfg.thresh.get l ∧
      t.dev.env.cfg.levels.get l = State.reset.dev.env.cfg.levels.get l) ∧
    t.dev.env.ref = { s.dev.env.ref with mismatch := 0, pendingLabel := none } ∧
    t.dev.env.cfg.ports = s.dev.env.cfg.ports ∧ t.dev.env.cfg.attnMask = s.dev.env.cfg.attnMask ∧
    t.dev.env.cfg.attnMode = s.dev.env.cfg.attnMode ∧
    (∀ n, t.dev.world.map.get n = { s.dev.world.map.get n with claim := none, waiters := [] }) ∧
    (∀ n, t.dev.world.rolls.get n = none) ∧
    (∀ p, t.dev.world.ports.get p =
      { Port.reset with
        state := if (s.dev.world.ports.get p).state = .down then .down else .inService
        nextSeq := (s.dev.world.ports.get p).nextSeq }) ∧
    (∀ st, t.dev.world.stations.get st =
      { Station.reset with
        lane := (s.dev.world.stations.get st).lane, present := (s.dev.world.stations.get st).present }) ∧
    (t.dev.world.monitor.refLost.active = true ↔ s.dev.env.ref.enabled = true ∧ s.dev.env.ref.state ≠ .locked) ∧
    (∀ l, (t.dev.world.monitor.stationLost.get l).active = true ↔
      ∃ st, (s.dev.world.stations.get st).lane = some l ∧ (s.dev.world.stations.get st).present = false) ∧
    (∀ st : Fin 6, (t.dev.world.out.station.filter (fun x => decide (x.1 = st))).map (·.2) =
      if (s.dev.world.stations.get st).present = true then
        [linkFrame 0x13#8 [], linkFrame 0x15#8 [], linkFrame 0x17#8 []]
      else []) ∧
    t.attn = false)

/-! ### The control port -/

/-- A transaction that reads the status byte alone: the free request slots, the responses waiting, the summary and the overrun flag,
which it clears; one that ends before its first byte, or finds RESET_N low, does nothing (R202, R208, R209). -/
def Obligations.StatusTransactionReadsTheStatusByte : Prop :=
  (∀ (s : State) (code : Byte) (further : Nat), s.pins.reset = false → s.ctl.Ok →
    ∃ t b, exec (.statusTransaction (some code) further) s = .next t ∧
      t.dev.world.out.sdo = some (b :: List.replicate further 0#8) ∧
      b.toNat = (4 - s.ctl.requests.length) * 32 + s.ctl.responses.length * 4 +
        (if attnSummary s.dev.env.cfg s.dev.world.monitor then 2 else 0) + (if s.ctl.overrun then 1 else 0) ∧
      t.ctl = { s.ctl with overrun := false } ∧ t.dev.env = s.dev.env ∧ t.dev.world.store = s.dev.world.store ∧
      t.dev.world.monitor = s.dev.world.monitor) ∧
  (∀ (s : State) (code : Option Byte) (further : Nat), s.pins.reset = true ∨ code = none →
    exec (.statusTransaction code further) s = .next s.quiet.drivePulse)

/-- A write transaction puts its request frame into the queue, or, where the queue is full, discards it with the overrun flag set; a
frame that CS_N cuts short is discarded (R203). -/
def Obligations.WriteTransactionQueuesItsRequest : Prop :=
  (∀ (s : State) (kind tag length : Byte) (payload extra : List Byte), s.pins.reset = false →
    payload.length = length.toNat →
    ∃ t, exec (.writeTransaction (kind :: tag :: length :: (payload ++ extra))) s = .next t ∧
      t.ctl = (if s.ctl.requests.length < 4 then
          { s.ctl with requests := s.ctl.requests ++ [{ kind, tag, length, payload }], overrun := false }
        else { s.ctl with overrun := true }) ∧
      t.dev.env = s.dev.env ∧ t.dev.world.store = s.dev.world.store ∧ t.dev.world.monitor = s.dev.world.monitor) ∧
  (∀ (s : State) (bytes : List Byte), s.pins.reset = false →
    (bytes.length < 3 ∨ ∃ kind tag length payload, bytes = kind :: tag :: length :: payload ∧
      payload.length < length.toNat) →
    ∃ t, exec (.writeTransaction bytes) s = .next t ∧ t.ctl = { s.ctl with overrun := false } ∧
      t.dev.env = s.dev.env ∧ t.dev.world.store = s.dev.world.store ∧ t.dev.world.monitor = s.dev.world.monitor) ∧
  (∀ (s : State) (bytes : List Byte), s.pins.reset = true →
    exec (.writeTransaction bytes) s = .next s.quiet.drivePulse)

/-- A read transaction sends the response at the head, which leaves the queue when its last byte has been sent; an empty queue reads
as 00 FF 00 (R205). -/
def Obligations.ReadTransactionSendsTheOldestResponse : Prop :=
  (∀ (s : State) (clocked : Nat) (r : Reply) (rest : List Reply), s.pins.reset = false → s.ctl.responses = r :: rest →
    let frame := [r.tag, r.status, BitVec.ofNat 8 r.payload.length] ++ r.payload
    ∃ t b, exec (.readTransaction clocked) s = .next t ∧
      t.ctl = { s.ctl with overrun := false, responses := if frame.length ≤ clocked then rest else r :: rest } ∧
      t.dev.world.out.sdo = some (b :: (frame.take clocked ++ List.replicate (clocked - frame.length) 0#8)) ∧
      t.dev.env = s.dev.env ∧ t.dev.world.store = s.dev.world.store ∧ t.dev.world.monitor = s.dev.world.monitor) ∧
  (∀ (s : State) (clocked : Nat), s.pins.reset = false → s.ctl.responses = [] →
    ∃ t b, exec (.readTransaction clocked) s = .next t ∧ t.ctl = { s.ctl with overrun := false } ∧
      t.dev.world.out.sdo = some (b :: ([0x00#8, 0xFF#8, 0x00#8].take clocked ++ List.replicate (clocked - 3) 0#8))) ∧
  (∀ (s : State) (clocked : Nat), s.pins.reset = true → exec (.readTransaction clocked) s = .next s.quiet.drivePulse)

/-- A pulse gives way to its gap and the gap to the next pulse that is pending; releasing RESET_N or a panel line moves that level and
nothing else but a pulse that becomes due. A cause is latched while an instance of its condition is; in LEVEL mode ATTN is asserted
while a cause that is not masked is latched; in PULSE mode each instance that latches from clear, at an event, an evaluation or a
judgement, its cause unmasked, adds a pulse to the pending count, which stops at 255. That the count falls as a pulse starts is the model's choice (R114, R192, R195,
R201, R206, R208, log 8). -/
def Obligations.PulsesAndReleases : Prop :=
  (∀ s : State, ∃ p : Pulse, exec .attnPulseTimer s =
      .next (State.drivePulse { s with dev := { s.begun with world := { s.begun.world with pulse := p } } }) ∧
      p.pending = s.dev.world.pulse.pending ∧
      p.phase = (if s.dev.world.pulse.phase = .asserted then .gap else .idle)) ∧
  (∀ s : State, s.pins.reset = false → s.dev.env.cfg.attnMode = .pulse → s.dev.world.pulse.phase = .gap →
    0 < s.dev.world.pulse.pending → ∃ t, exec .attnPulseTimer s = .next t ∧
      t.dev.world.pulse = { phase := .asserted, pending := s.dev.world.pulse.pending - 1 } ∧ t.attn = true) ∧
  (∀ (s : State) (l : Fin 4) (line : PanelLine),
    exec (.panelLineRelease l line) s = .next (State.drivePulse { s with dev := s.begun, pins := s.pins.line l line false })) ∧
  (∀ s : State,
    exec .resetNRelease s = .next (State.drivePulse { s with dev := s.begun, pins := { s.pins with reset := false } })) ∧
  (∀ m : Monitor, (m.cause .overC = true ↔ ∃ l, (m.overI.get l).latched = true) ∧
    (m.cause .underC = true ↔ ∃ l, (m.underI.get l).latched = true) ∧
    (m.cause .noNext = true ↔ ∃ l, (m.noNext.get l).latched = true) ∧
    (m.cause .notReady = true ↔ ∃ l, (m.notReady.get l).latched = true) ∧
    (m.cause .portFault = true ↔ ∃ l, (m.portFault.get l).latched = true) ∧
    (m.cause .stationLost = true ↔ ∃ l, (m.stationLost.get l).latched = true) ∧
    (m.cause .refLost = m.refLost.latched) ∧ (m.cause .gateTimeout = true ↔ ∃ l, (m.gateTimeout.get l).latched = true) ∧
    (m.cause .clockSlip = m.clockSlip.latched) ∧ (m.cause .rxOverrun = true ↔ ∃ p, (m.rxOverrun.get p).latched = true) ∧
    (m.cause .stationCall = true ↔ ∃ st, (m.stationCall.get st).latched = true) ∧
    (m.cause .stationHold = true ↔ ∃ st, (m.stationHold.get st).latched = true)) ∧
  (∀ s : State, s.pins.reset = false →
    (s.dev.env.cfg.attnMode = .level → (s.attn = true ↔
      ∃ k : Cond, s.dev.world.monitor.cause k = true ∧ s.dev.env.cfg.attnMask.getLsbD k.bit = false)) ∧
    (s.dev.env.cfg.attnMode = .pulse → (s.attn = true ↔ s.dev.world.pulse.phase = .asserted))) ∧
  (∀ (e : Env) (w : World) (l : Fin 4) (p : Fin 8) (st : Fin 6),
    let m := w.monitor
    let drives := fun k : Cond => e.cfg.attnMode = .pulse ∧ e.cfg.attnMask.getLsbD k.bit = false
    let adds := fun (k : Cond) (old new : Inst) =>
      if drives k ∧ old.latched = false ∧ new.latched = true then 1 else 0
    let pulses := fun (w' : World) (n : Nat) => w'.pulse =
      { w.pulse with pending := if n = 0 then w.pulse.pending else min 255 (w.pulse.pending + n) }
    let latched := fun (k : Cond) (old new : Inst) (w' : World) =>
      new.latched = true ∧ new.count = min 255 (old.count + 1) ∧ pulses w' (adds k old new)
    latched .gateTimeout (m.gateTimeout.get l) ((World.latchGate e w l).monitor.gateTimeout.get l) (World.latchGate e w l) ∧
    latched .clockSlip m.clockSlip (World.latchSlip e w).monitor.clockSlip (World.latchSlip e w) ∧
    latched .rxOverrun (m.rxOverrun.get p) ((World.latchOverrun e w p).monitor.rxOverrun.get p) (World.latchOverrun e w p) ∧
    latched .stationCall (m.stationCall.get st) ((World.latchCall e w st).monitor.stationCall.get st)
      (World.latchCall e w st) ∧
    latched .stationHold (m.stationHold.get st) ((World.latchHold e w st).monitor.stationHold.get st)
      (World.latchHold e w st) ∧
    (let w' := World.judgeLane e w l
     pulses w' (adds .noNext (m.noNext.get l) (w'.monitor.noNext.get l) +
       adds .notReady (m.notReady.get l) (w'.monitor.notReady.get l) +
       adds .portFault (m.portFault.get l) (w'.monitor.portFault.get l) +
       adds .stationLost (m.stationLost.get l) (w'.monitor.stationLost.get l))) ∧
    (let w' := World.evalLane e w l
     pulses w' (adds .overC (m.overI.get l) (w'.monitor.overI.get l) + adds .underC (m.underI.get l) (w'.monitor.underI.get l))) ∧
    (let w' := World.settle e w
     let lane := fun l : Fin 4 => adds .noNext (m.noNext.get l) (w'.monitor.noNext.get l) +
       adds .notReady (m.notReady.get l) (w'.monitor.notReady.get l) +
       adds .portFault (m.portFault.get l) (w'.monitor.portFault.get l) +
       adds .stationLost (m.stationLost.get l) (w'.monitor.stationLost.get l)
     pulses w' (adds .refLost m.refLost w'.monitor.refLost + (lane 0 + lane 1 + lane 2 + lane 3)))) ∧
  (∀ (s : State) (i : Fin 8) (kind : Byte) (fields : List Byte),
    let r := s.dev.world.ports.get i
    fields.length < 40 → r.state ≠ .down → 4 ≤ r.received.length → s.pins.reset = false →
    s.dev.env.cfg.attnMask.getLsbD 9 = false →
    ∃ t, exec (.cueFrameReceived i (linkFrame kind fields)) s = .next t ∧
      (s.dev.env.cfg.attnMode = .level → t.attn = true) ∧
      (s.dev.env.cfg.attnMode = .pulse → (s.dev.world.monitor.rxOverrun.get i).latched = false →
        s.dev.world.pulse = { phase := .idle, pending := 0 } →
        t.attn = true ∧ t.dev.world.pulse = { phase := .asserted, pending := 0 }))

/-! ### Edits of the rundown -/

/-- INSERT creates the item it describes, on records that leave the pools, at the place it names; an absorber field it gives takes the
lane's other items' away; nothing else of the store changes. That the first free records are taken is the model's choice (R10, R12,
R28 to R31, log 20). -/
def Obligations.InsertCreatesTheItem : Prop :=
  ∀ (s : State) (tag : Byte) (p : List Byte) (rest : List Request) (q : InsertReq) (l : Fin 4) (src : List Element)
    (ref : Ref) (freeItems : List Ref),
    let S := s.dev.world.store
    s.Asks 0x10#8 tag p rest → readAll readInsert p = some q → place? 4 q.lane = some l → q.key ≠ 0 →
    (∀ t, q.label = some t → t.all isPrintable = true) → (∀ a, q.absorber = some a → a.1 ≤ a.2) →
    (∀ c, q.cycle = some c → c.1 ≤ 31 ∧ c.2.1 ≤ 31) →
    ((q.source = none ∧ src = []) ∨ ∃ k it, k ≠ 0 ∧ q.source = some k ∧ S.item? k = some it ∧ src = it.elements) →
    endModeFits src (q.endMode.getD .manual) = true → S.item? q.key = none →
    (match q.position with
     | .before k => k = 0 ∨ (k ∈ S.orders.get l ∧ ∃ b, S.item? k = some b ∧ b.lane = l ∧ b.place = .order)
     | .standby => S.standbys.get l = none) →
    S.freeItems = ref :: freeItems → src.length ≤ S.freeElements.length →
    ∃ d : Dev, exec .insert s = .next (s.replied rest tag d.settle .ok (revReply q.key d.settle)) ∧
      d.env = s.dev.env ∧ s.begun.world.Keeps d.world [l] ∧ (d.world.lane l).kept = (s.dev.world.lane l).kept ∧
      (d.world.lane l).cursor = (s.dev.world.lane l).cursor ∧
      d.world.store.records =
        S.records.map (fun it => if q.absorber.isSome ∧ it.lane = l ∧ it.absorber.isSome then
          { it with absorber := none, rev := it.rev + 1 } else it) ++
        [{ ref := ref.allocated, key := q.key, lane := l
           place := match q.position with
             | .before _ => .order
             | .standby => .standby
           label := q.label.getD [], state := .pending, disposition := .inOrder
           planned := min (q.planned.getD 0) 1048575, endMode := q.endMode.getD .manual
           dropPriority := min 7 (q.dropPriority.getD 0)
           absorber := q.absorber.map (fun a => { min := min a.1 1048575, max := min a.2 1048575 })
           cycle := q.cycle.map (fun c => { first := min c.1 c.2.1, last := c.2.1, period := max 1 (min c.2.2 1048575) })
           elements := List.zipWith (fun r el => Element.create r.allocated el.content el.offset) S.freeElements src
           start := none, actual := none, effPlanned := none, proposed := false, rev := 0 }] ∧
      d.world.store.freeItems = freeItems ∧ d.world.store.freeElements = S.freeElements.drop src.length ∧
      (match q.position with
       | .before k => d.world.store.standbys = S.standbys ∧ (∀ l', l' ≠ l → d.world.store.orders.get l' = S.orders.get l') ∧
         ∃ up down, S.orders.get l = up ++ down ∧ d.world.store.orders.get l = up ++ q.key :: down ∧
           (k = 0 → down = []) ∧ (k ≠ 0 → down.head? = some k)
       | .standby => d.world.store.orders = S.orders ∧ d.world.store.standbys.get l = some q.key ∧
         ∀ l', l' ≠ l → d.world.store.standbys.get l' = S.standbys.get l')

/-- The fields an AMEND carries, written into an item; one that they leave as it was keeps its rev. That a changed planned sets the
effective planned of a standby item on air by its absorber is the model's choice (R16, R18, R32 to R34, log 32). -/
def Obligations.AmendWritesTheFieldsItCarries : Prop :=
  ∀ (s : State) (tag : Byte) (p : List Byte) (rest : List Request) (q : AmendReq) (it : Item),
    let S := s.dev.world.store
    let planned := (q.planned.map (min 1048575)).getD it.planned
    let amended : Item :=
      { it with
        label := q.label.getD it.label, planned := planned, endMode := q.endMode.getD it.endMode
        dropPriority := (q.dropPriority.map (min 7)).getD it.dropPriority
        absorber := match q.absorber with
          | .absent => it.absorber
          | .given a => some { min := min a.1 1048575, max := min a.2 1048575 }
          | .word => none
        cycle := match q.cycle with
          | .absent => it.cycle
          | .given c => some { first := min c.1 c.2.1, last := c.2.1, period := max 1 (min c.2.2 1048575) }
          | .word => none
        effPlanned := if it.state = .onAir ∧ planned ≠ it.planned then
            some (match it.absorber with
              | some a => max a.min (min a.max planned)
              | none => planned)
          else it.effPlanned }
    s.Asks 0x11#8 tag p rest → readAll readAmend p = some q → q.key ≠ 0 → S.item? q.key = some it → S.Ok →
    (∀ t, q.label = some t → t.all isPrintable = true) → (∀ a, q.absorber = .given a → a.1 ≤ a.2) →
    (∀ c, q.cycle = .given c → c.1 ≤ 31 ∧ c.2.1 ≤ 31) → endModeFits it.elements (q.endMode.getD .manual) = true →
    (∀ r, q.rev = some r → r = it.rev.toNat) → (it.state = .onAir → q.absorber = .absent) →
    ∃ d : Dev, (exec .amend s = .next (s.replied rest tag d.settle .ok (revReply q.key d.settle)) ∨
        (d = s.begun ∧ exec .amend s = .next (s.replied rest tag d .ok (revReply q.key d)))) ∧
      d.env = s.dev.env ∧ s.begun.world.Keeps d.world [it.lane] ∧
      (d.world.lane it.lane).kept = (s.dev.world.lane it.lane).kept ∧
      (d.world.lane it.lane).cursor = (s.dev.world.lane it.lane).cursor ∧
      d.world.store.records = S.records.map (fun i =>
        if i.key = q.key then
          (if amended = it then i else { amended with rev := it.rev + 1 }.record)
        else if q.absorber.value?.isSome ∧ i.lane = it.lane ∧ i.absorber.isSome then
          { i with absorber := none, rev := i.rev + 1 }
        else i) ∧
      d.world.store.freeItems = S.freeItems ∧ d.world.store.freeElements = S.freeElements ∧
      d.world.store.orders = S.orders ∧ d.world.store.standbys = S.standbys

/-- MOVE carries a run of items to the place it names, each taking the target lane; across lanes an item loses its proposed mark, and
its absorber field where that lane has one; a cursor that stood on the run passes to the item above it; a run that stands where the
request names changes nothing (R8, R35, R36). -/
def Obligations.MoveCarriesTheRun : Prop :=
  ∀ (s : State) (tag : Byte) (p : List Byte) (rest : List Request) (q : MoveReq) (target : Fin 4) (it : Item)
    (above run below : List Nat),
    let S := s.dev.world.store
    let has := S.items.any (fun i => decide (i.lane = target) && i.absorber.isSome && !run.contains i.key)
    let stands := it.lane = target ∧ below.head? = (if q.before = 0 then none else some q.before)
    s.Asks 0x12#8 tag p rest → readAll readMove p = some q → place? 4 q.lane = some target → q.first ≠ 0 → S.Ok → S.Placed →
    S.item? q.first = some it → it.place = .order → S.orders.get it.lane = above ++ run ++ below →
    run.head? = some q.first → run.length = max 1 q.count → run.length ≤ 32 →
    (∀ k i, k ∈ run → S.item? k = some i → i.state = .pending ∨ i.state = .next) →
    (q.before = 0 ∨ (q.before ∈ S.orders.get target ∧ q.before ∉ run)) →
    (stands → exec .move s = .next (s.replied rest tag s.begun .ok (be 1 0))) ∧
    (¬stands → ∃ d : Dev, exec .move s = .next (s.replied rest tag d.settle .ok (be 1 run.length)) ∧
          d.world.store.records = S.records.map (fun i => if i.key ∈ run then
            (if it.lane = target then { i with rev := i.rev + 1 }
             else { i with lane := target, proposed := false, rev := i.rev + 1
                           absorber := if has then none else i.absorber })
            else i) ∧
          (d.world.lane it.lane).cursor = (match (s.dev.world.lane it.lane).cursor with
            | some c => if c ∈ run then above.getLast? else some c
            | none => none) ∧
      d.env = s.dev.env ∧ s.begun.world.Keeps d.world [it.lane, target] ∧
      (d.world.lane it.lane).kept = (s.dev.world.lane it.lane).kept ∧
      (d.world.lane target).kept = (s.dev.world.lane target).kept ∧
      (∃ up down, d.world.store.orders.get target = up ++ run ++ down ∧
        (if it.lane = target then above ++ below else S.orders.get target) = up ++ down ∧
        (q.before = 0 → down = []) ∧ (q.before ≠ 0 → down.head? = some q.before)) ∧
      (it.lane ≠ target → d.world.store.orders.get it.lane = above ++ below) ∧
      (∀ l, l ≠ it.lane → l ≠ target → d.world.store.orders.get l = S.orders.get l) ∧
      d.world.store.standbys = S.standbys ∧ d.world.store.freeItems = S.freeItems ∧
      d.world.store.freeElements = S.freeElements)

/-- FLOAT and RESTORE set a disposition and leave an item that has it as it was; an item floated is no lane's NEXT (R38, R39). -/
def Obligations.FloatAndRestoreSetTheDisposition : Prop :=
  ∀ (s : State) (tag : Byte) (p : List Byte) (rest : List Request) (k : Nat) (it : Item),
    let S := s.dev.world.store
    readAll (readNat 2) p = some k → k ≠ 0 → S.item? k = some it →
    (s.Asks 0x13#8 tag p rest → it.place = .order → it.state ≠ .onAir → it.disposition = .floated →
      exec .float s = .next (s.replied rest tag s.begun .ok (revReply k s.begun))) ∧
    (s.Asks 0x13#8 tag p rest → it.place = .order → it.state ≠ .onAir → it.disposition ≠ .floated →
      ∃ d : Dev, exec .float s = .next (s.replied rest tag d.settle .ok (revReply k d.settle)) ∧
        d.env = s.dev.env ∧ s.begun.world.Keeps d.world [it.lane] ∧
        (d.world.lane it.lane).kept = (s.dev.world.lane it.lane).kept ∧
        (d.world.lane it.lane).cursor = (s.dev.world.lane it.lane).cursor ∧ (d.world.lane it.lane).next ≠ some k ∧
        d.world.store.records = S.records.map (fun i => if i.key = k then
          { i with disposition := .floated, proposed := false, rev := i.rev + 1 } else i) ∧
        d.world.store.orders = S.orders ∧ d.world.store.standbys = S.standbys ∧
        d.world.store.freeItems = S.freeItems ∧ d.world.store.freeElements = S.freeElements) ∧
    (s.Asks 0x14#8 tag p rest → it.disposition = .inOrder →
      exec .restore s = .next (s.replied rest tag s.begun .ok (revReply k s.begun))) ∧
    (s.Asks 0x14#8 tag p rest → it.disposition ≠ .inOrder →
      ∃ d : Dev, exec .restore s = .next (s.replied rest tag d.settle .ok (revReply k d.settle)) ∧
        d.env = s.dev.env ∧ s.begun.world.Keeps d.world [it.lane] ∧
        (d.world.lane it.lane).kept = (s.dev.world.lane it.lane).kept ∧
        (d.world.lane it.lane).cursor = (s.dev.world.lane it.lane).cursor ∧
        d.world.store.records = S.records.map (fun i => if i.key = k then
          { i with disposition := .inOrder, rev := i.rev + 1 } else i) ∧
        d.world.store.orders = S.orders ∧ d.world.store.standbys = S.standbys ∧
        d.world.store.freeItems = S.freeItems ∧ d.world.store.freeElements = S.freeElements)

/-- KILL frees the item it names and RETIRE the DONE items down to the key it names: their keys are gone, and their records stand in the
pools again; a cursor on a freed item passes to the item above it that is left. In what order the records join the pools is the
model's choice (R2, R8, R40, R41, log 20). -/
def Obligations.KillAndRetireFreeItems : Prop :=
  (∀ (s : State) (tag : Byte) (p : List Byte) (rest : List Request) (k : Nat) (it : Item),
    let S := s.dev.world.store
    s.Asks 0x15#8 tag p rest → readAll (readNat 2) p = some k → k ≠ 0 → S.item? k = some it → it.state ≠ .onAir →
    ∃ d : Dev, exec .kill s = .next (s.replied rest tag d.settle .ok (be 2 it.elements.length)) ∧
      d.env = s.dev.env ∧ s.begun.world.Keeps d.world [it.lane] ∧
      (d.world.lane it.lane).kept = (s.dev.world.lane it.lane).kept ∧
      (d.world.lane it.lane).cursor = (if (s.dev.world.lane it.lane).cursor = some k then
        above? (S.orders.get it.lane) k else (s.dev.world.lane it.lane).cursor) ∧
      d.world.item? k = none ∧ d.world.store.records = S.records.filter (fun i => decide (i.key ≠ k)) ∧
      d.world.store.freeItems = S.freeItems ++ [it.ref] ∧
      d.world.store.freeElements = S.freeElements ++ it.elements.map (·.ref) ∧
      d.world.store.orders.get it.lane = (S.orders.get it.lane).filter (fun x => decide (x ≠ k)) ∧
      (∀ l, l ≠ it.lane → d.world.store.orders.get l = S.orders.get l ∧ d.world.store.standbys.get l = S.standbys.get l) ∧
      d.world.store.standbys.get it.lane =
        (if S.standbys.get it.lane = some k then none else S.standbys.get it.lane)) ∧
  (∀ (s : State) (tag : Byte) (p : List Byte) (rest : List Request) (n upTo : Nat) (l : Fin 4) (walked below : List Nat),
    let S := s.dev.world.store
    let done := (S.itemsOf walked).filter (fun it => decide (it.state = .done))
    s.Asks 0x16#8 tag p rest → readAll readLaneKey p = some (n, upTo) → place? 4 n = some l → S.Ok → S.Placed →
    S.orders.get l = walked ++ below → ((upTo = 0 ∧ below = []) ∨ (upTo ≠ 0 ∧ walked.getLast? = some upTo)) →
    ∃ d : Dev, (exec .retire s = .next (s.replied rest tag d.settle .ok
          (be 2 done.length ++ be 2 (done.map (·.elements.length)).sum)) ∨
        (done = [] ∧ d = s.begun ∧ exec .retire s = .next (s.replied rest tag d .ok (be 2 0 ++ be 2 0)))) ∧
      d.env = s.dev.env ∧ s.begun.world.Keeps d.world [l] ∧ (d.world.lane l).kept = (s.dev.world.lane l).kept ∧
      (d.world.lane l).cursor = ((s.dev.world.lane l).cursor.bind (fun c => if c ∈ done.map (·.key) then
          (((S.orders.get l).takeWhile (fun k => decide (k ≠ c))).filter
            (fun k => decide (k ∉ done.map (·.key)))).getLast?
        else some c)) ∧
      d.world.store.records = S.records.filter (fun i => !(done.map (·.key)).contains i.key) ∧
      d.world.store.orders.get l = (S.orders.get l).filter (fun k => !(done.map (·.key)).contains k) ∧
      (∀ l', l' ≠ l → d.world.store.orders.get l' = S.orders.get l') ∧ d.world.store.standbys = S.standbys ∧
      d.world.store.freeItems = S.freeItems ++ done.map (·.ref) ∧
      d.world.store.freeElements = S.freeElements ++ done.flatMap (fun it => it.elements.map (·.ref)))

/-- ADDEL puts a new element at an index and DELEL takes the one at an index away; the end clip and the cycle follow their elements
(R11, R13, R19, R42, R44). Which record is taken, where the freed one goes, and that a kind left out is CLIP are the model's
choice (log 20, 4). -/
def Obligations.AddelAndDelelChangeTheList : Prop :=
  (∀ (s : State) (tag : Byte) (p : List Byte) (rest : List Request) (k index : Nat) (q : ElemReq) (c : Content)
    (it : Item) (ref : Ref) (free : List Ref),
    let S := s.dev.world.store
    let offset := min (q.offset.getD 0) 1048575
    s.Asks 0x18#8 tag p rest → readAll readAddel p = some (k, index, q) → k ≠ 0 → q.inRange = true →
    q.content (.clip 0 0) = some c → (c.isGating = true → offset = 0 ∧ it.gating? = none) → S.item? k = some it →
    index ≤ it.elements.length → it.elements.length < 32 → S.freeElements = ref :: free →
    ∃ d : Dev, exec .addel s = .next (s.replied rest tag d.settle .ok (revReply k d.settle)) ∧
      d.env = s.dev.env ∧ s.begun.world.Keeps d.world [it.lane] ∧
      (d.world.lane it.lane).kept = (s.dev.world.lane it.lane).kept ∧
      (d.world.lane it.lane).cursor = (s.dev.world.lane it.lane).cursor ∧
      d.world.store.records = S.records.map (fun i => if i.key = k then
        { i with elements := i.elements.take index ++ Element.create ref.allocated c offset :: i.elements.drop index
                 endMode := match i.endMode with
                   | .clip j => .clip (if index ≤ j then j + 1 else j)
                   | m => m
                 cycle := i.cycle.bind (fun x =>
                   if index ≤ x.first then
                     (if 31 < x.first + 1 then none
                      else some { x with first := x.first + 1, last := min 31 (x.last + 1) })
                   else if index ≤ x.last then some { x with last := min 31 (x.last + 1) }
                   else some x)
                 rev := i.rev + 1 } else i) ∧
      d.world.store.freeElements = free ∧ d.world.store.freeItems = S.freeItems ∧
      d.world.store.orders = S.orders ∧ d.world.store.standbys = S.standbys) ∧
  (∀ (s : State) (tag : Byte) (p : List Byte) (rest : List Request) (k index : Nat) (it : Item) (el : Element),
    let S := s.dev.world.store
    s.Asks 0x1A#8 tag p rest → readAll readDelel p = some (k, index) → k ≠ 0 → S.item? k = some it →
    it.elements[index]? = some el →
    ∃ d : Dev, exec .delel s = .next (s.replied rest tag d.settle .ok (revReply k d.settle)) ∧
      d.env = s.dev.env ∧ s.begun.world.Keeps d.world [it.lane] ∧
      (d.world.lane it.lane).kept = (s.dev.world.lane it.lane).kept ∧
      (d.world.lane it.lane).cursor = (s.dev.world.lane it.lane).cursor ∧
      d.world.store.records = S.records.map (fun i => if i.key = k then
        { i with elements := i.elements.take index ++ i.elements.drop (index + 1)
                 endMode := match i.endMode with
                   | .clip j => if j = index then .manual else .clip (if index < j then j - 1 else j)
                   | m => m
                 cycle := i.cycle.bind (fun x =>
                   if index < x.first then some { x with first := x.first - 1, last := x.last - 1 }
                   else if index ≤ x.last then
                     (if x.first = x.last then none else some { x with last := x.last - 1 })
                   else some x)
                 rev := i.rev + 1 } else i) ∧
      d.world.store.freeElements = S.freeElements ++ [el.ref] ∧ d.world.store.freeItems = S.freeItems ∧
      d.world.store.orders = S.orders ∧ d.world.store.standbys = S.standbys)

/-- SETEL writes the content fields it carries into one element; a request that changes none of them leaves the item and its rev as they
were; an end clip that is no longer a CLIP leaves the end mode MANUAL (R11, R20, R43). -/
def Obligations.SetelRewritesOneElement : Prop :=
  ∀ (s : State) (tag : Byte) (p : List Byte) (rest : List Request) (k index : Nat) (q : ElemReq) (c : Content)
    (it : Item) (el : Element),
    let S := s.dev.world.store
    let offset := (q.offset.map (min 1048575)).getD el.offset
    s.Asks 0x19#8 tag p rest → readAll readAddel p = some (k, index, q) → k ≠ 0 → q.inRange = true →
    S.item? k = some it → it.elements[index]? = some el → q.content el.content = some c →
    (c.isGating = true → offset = 0 ∧ ∀ x, it.gating? = some x → x.ref = el.ref) →
    (it.state = .onAir → el.fire ≠ .sent) →
    (c = el.content → offset = el.offset →
      exec .setel s = .next (s.replied rest tag s.begun .ok (revReply k s.begun))) ∧
    (c ≠ el.content ∨ offset ≠ el.offset →
      ∃ d : Dev, exec .setel s = .next (s.replied rest tag d.settle .ok (revReply k d.settle)) ∧
        d.env = s.dev.env ∧ s.begun.world.Keeps d.world [it.lane] ∧
        (d.world.lane it.lane).kept = (s.dev.world.lane it.lane).kept ∧
        (d.world.lane it.lane).cursor = (s.dev.world.lane it.lane).cursor ∧
        d.world.store.records = S.records.map (fun i => if i.key = k then
          { i with elements := i.elements.map (fun x => if x.ref = el.ref then Element.create x.ref c offset else x)
                   endMode := if i.endMode = .clip index ∧ c.isClip = false then .manual else i.endMode
                   rev := i.rev + 1 } else i) ∧
        d.world.store.freeElements = S.freeElements ∧ d.world.store.freeItems = S.freeItems ∧
        d.world.store.orders = S.orders ∧ d.world.store.standbys = S.standbys)

/-- STAMP gives each of the items it chooses a copy of its element at the end of the list, skipping those that are full and, for a
gating template, those that gate already; which free record each is given, and that a kind the template leaves out is CLIP, are the
model's choice (R45, R46, log 4, 20, 33). -/
def Obligations.StampGivesEachChosenItemACopy : Prop :=
  ∀ (s : State) (tag : Byte) (p : List Byte) (rest : List Request) (q : StampReq) (l : Fin 4) (c : Content)
    (above run below : List Nat),
    let S := s.dev.world.store
    let offset := min (q.elem.offset.getD 0) 1048575
    let stride := min 8 (max 1 q.stride)
    let live := (S.itemsOf run).filter Item.livePending
    let chosen := (live.zipIdx.filter (fun x => decide (x.2 % stride = 0))).map (·.1)
    let fits := fun it : Item => decide (it.elements.length < 32)
    let gated := fun it : Item => c.isGating && it.gating?.isSome
    let given := chosen.filter (fun it => fits it && !gated it)
    s.Asks 0x1B#8 tag p rest → readAll readStamp p = some q → place? 4 q.lane = some l → q.elem.inRange = true →
    q.elem.content (.clip 0 0) = some c → (c.isGating = true → offset = 0) → S.Ok → S.Placed →
    S.orders.get l = above ++ run ++ below → run.length ≤ max 1 q.count → max 1 q.count ≤ 32 →
    (below ≠ [] → run.length = max 1 q.count) →
    ((q.start = 0 ∧ above = []) ∨ (q.start ≠ 0 ∧ run.head? = some q.start)) →
    given.length ≤ S.freeElements.length →
    ∃ (d : Dev) (payload : List Byte), (exec .stamp s = .next (s.replied rest tag d.settle .ok payload) ∨
        (given = [] ∧ d = s.begun ∧ exec .stamp s = .next (s.replied rest tag d .ok payload))) ∧
      payload = be 1 run.length ++ be 1 chosen.length ++ be 1 given.length ++
        be 1 (chosen.filter (fun it => !fits it)).length ++
        be 1 (chosen.filter (fun it => fits it && gated it)).length ∧
      d.env = s.dev.env ∧ s.begun.world.Keeps d.world [l] ∧ (d.world.lane l).kept = (s.dev.world.lane l).kept ∧
      (d.world.lane l).cursor = (s.dev.world.lane l).cursor ∧
      d.world.store.records.length = S.records.length ∧
      (∀ (n : Nat) (it : Item) (ref : Ref), given[n]? = some it → S.freeElements[n]? = some ref →
        (d.world.item? it.key).map Item.record = some { it.record with
          elements := it.record.elements ++ [Element.create ref.allocated c offset], rev := it.rev + 1 }) ∧
      (∀ k, k ∉ given.map (·.key) → (d.world.item? k).map Item.record = (S.item? k).map Item.record) ∧
      d.world.store.freeElements = S.freeElements.drop given.length ∧ d.world.store.freeItems = S.freeItems ∧
      d.world.store.orders = S.orders ∧ d.world.store.standbys = S.standbys

/-! ### The clock -/

/-- RATE carries the clock to a new rate by its label, frees the reference to run and resolves every hard out afresh; the rate in force
changes nothing, a lane that is not IDLE refuses it with BUSY, and a value that names no rate with BAD_ARG; the rate is 25 after
power-on reset and kept across warm reset (R61, R75, R76). That BUSY is tested before the rate is compared with the one in force is
read from the order of the checks (log 26), and that the payload is empty is the model's choice (log 4). -/
def Obligations.RateConvertsTheClock : Prop :=
  (∀ (s : State) (tag : Byte) (p : List Byte) (rest : List Request) (n : Nat), s.Asks 0x30#8 tag p rest →
    readAll readByte p = some n → 3 < n → exec .rate s = .next (s.replied rest tag s.begun .badArg [])) ∧
  (∀ (s : State) (tag : Byte) (p : List Byte) (rest : List Request) (n : Nat) (rate : Rate),
    let r := s.dev.env.ref
    let scaled := fun x : Label => rate.clampLabel { x with ff := x.ff * rate.nominal / r.rate.nominal }
    let t' := rate.countOf (scaled (r.rate.label r.t))
    s.Asks 0x30#8 tag p rest → readAll readByte p = some n → rate? n = some rate →
    ((∃ l, (s.dev.world.lane l).state ≠ .idle) → exec .rate s = .next (s.replied rest tag s.begun .busy [])) ∧
    ((∀ l, (s.dev.world.lane l).state = .idle) → rate = r.rate →
      exec .rate s = .next (s.replied rest tag s.begun .ok [])) ∧
    ((∀ l, (s.dev.world.lane l).state = .idle) → rate ≠ r.rate →
      ∃ d : Dev, exec .rate s = .next (s.replied rest tag d.settle .ok []) ∧
        d.env.ref = { r with
          rate := rate, t := t', state := .freeRun, acquired := 0, mismatch := 0, missingTimer := false
          internal := some .rateChange } ∧
        d.env.cfg = { s.dev.env.cfg with hardOuts := d.env.cfg.hardOuts } ∧
        (∀ l, d.env.cfg.hardOuts.get l = (s.dev.env.cfg.hardOuts.get l).map (fun h =>
          { label := scaled h.label
            habs := r.fc + BitVec.ofNat 32 (((rate.countOf (scaled h.label) : Int) - t') % rate.day).toNat })) ∧
        d.world = { s.begun.world with due := d.world.due })) ∧
  State.reset.dev.env.ref.rate = .r25 ∧
  (∀ s t : State, exec .warmReset s = .next t → t.dev.env.ref.rate = s.dev.env.ref.rate)

/-- REFCFG writes the three settings of the reference, disabling it as the reference's state table gives; CLOCKSET keeps a label for the
next frame arrival; HARDOUT resolves a label to its next occurrence, and SUBST sets a lane's timing substitute, CLEAR removing
either, and the lane is recomputed within the request; that REFCFG and CLOCKSET answer with no payload is the model's choice (R57,
R67, R68, R73, R75, R90, log 4). -/
def Obligations.ClockAndTargetRequestsWriteTheirSettings : Prop :=
  (∀ (s : State) (tag : Byte) (p : List Byte) (rest : List Request) (q : RefcfgReq),
    let r := s.dev.env.ref
    s.Asks 0x31#8 tag p rest → readAll readRefcfg p = some q →
    ∃ d : Dev, exec .refcfg s = .next (s.replied rest tag d.settle .ok []) ∧ d.world = s.begun.world ∧
      d.env.cfg = s.dev.env.cfg ∧ d.env.ref.enabled = q.enable ∧ d.env.ref.labelCheck = q.check ∧
      d.env.ref.slipCount = max 1 (min 15 q.slipCount) ∧ d.env.ref.fc = r.fc ∧ d.env.ref.t = r.t ∧
      d.env.ref.rate = r.rate ∧ d.env.ref.pendingLabel = r.pendingLabel ∧
      d.env.ref.mismatch = (if q.check ≠ r.labelCheck ∨ (r.enabled = true ∧ q.enable = false ∧ r.state = .locked) then 0
        else r.mismatch) ∧
      (if r.enabled = true ∧ q.enable = false then
        d.env.ref.state = .freeRun ∧ d.env.ref.acquired = 0 ∧ d.env.ref.missingTimer = false ∧
          d.env.ref.internal = (if r.state = .locked then some .lastAcceptedPulse else r.internal)
      else d.env.ref.state = r.state ∧ d.env.ref.acquired = r.acquired ∧ d.env.ref.missingTimer = r.missingTimer ∧
        d.env.ref.internal = r.internal)) ∧
  (∀ (s : State) (tag : Byte) (p : List Byte) (rest : List Request) (x : Label),
    let r := s.dev.env.ref
    s.Asks 0x32#8 tag p rest → readAll readLabel p = some x →
    (r.rate.reads x = true → exec .clockset s = .next (s.replied rest tag { s.begun with
      env := { s.dev.env with ref := { r with pendingLabel := some (r.rate.clampLabel x) } } } .ok [])) ∧
    (r.rate.reads x = false → exec .clockset s = .next (s.replied rest tag s.begun .badArg []))) ∧
  (∀ (s : State) (tag : Byte) (p : List Byte) (rest : List Request) (n : Nat) (x : Machine.Field Label) (l : Fin 4),
    let r := s.dev.env.ref
    s.Asks 0x38#8 tag p rest → readAll (readLaneField readLabel) p = some (n, x) → place? 4 n = some l →
    (x = .word ∨ ∃ y, x = .given y ∧ r.rate.reads y = true) →
    ∃ d : Dev, exec .hardout s = .next (s.replied rest tag d.settle .ok
        (hardOutBytes d.env (d.env.cfg.hardOuts.get l))) ∧
      d.env.ref = r ∧ d.env.cfg = { s.dev.env.cfg with hardOuts := d.env.cfg.hardOuts } ∧
      (∀ l', l' ≠ l → d.env.cfg.hardOuts.get l' = s.dev.env.cfg.hardOuts.get l') ∧
      (x = .word → d.env.cfg.hardOuts.get l = none) ∧
      (∀ y, x = .given y → ∃ h, d.env.cfg.hardOuts.get l = some h ∧ h.label = r.rate.clampLabel y ∧
        0 ≤ fcDist r.fc h.habs ∧ fcDist r.fc h.habs < r.rate.day ∧
        ((r.t : Int) + fcDist r.fc h.habs) % r.rate.day = r.rate.countOf h.label) ∧
      d.world = { s.begun.world with due := d.world.due } ∧ (d.settle.world.timing.get l).computedAt = r.fc) ∧
  (∀ (s : State) (tag : Byte) (p : List Byte) (rest : List Request) (n : Nat) (x : Machine.Field Int) (l : Fin 4),
    s.Asks 0x39#8 tag p rest → readAll (readLaneField readSigned) p = some (n, x) → place? 4 n = some l → x ≠ .absent →
    ∃ d : Dev, exec .subst s = .next (s.replied rest tag d.settle .ok
        (optional signed (d.env.cfg.lanes.get l).substitute)) ∧
      d.env.ref = s.dev.env.ref ∧ d.env.cfg = { s.dev.env.cfg with lanes := d.env.cfg.lanes } ∧
      (∀ l', l' ≠ l → d.env.cfg.lanes.get l' = s.dev.env.cfg.lanes.get l') ∧
      d.env.cfg.lanes.get l = { s.dev.env.cfg.lanes.get l with substitute := match x with
        | .given v => some (max (-8388607) (min 8388607 v))
        | _ => none } ∧
      d.world = { s.begun.world with due := d.world.due } ∧
      (d.settle.world.timing.get l).computedAt = s.dev.env.ref.fc)

/-- Each expiry of the internal source is a frame arrival: the counter and the clock advance by one, or a pending CLOCKSET is applied
and every hard out moved against the clock's shift; a source that is stopped expires to no effect. The label that comes with a
pulse in LOCKED is compared with the advanced clock: a match clears the mismatch count, a mismatch raises it, and the one that
reaches the slip count re-jams the clock, moves every hard out and latches CLOCK_SLIP. That a row expires to no effect where its timer
does not run, and that a pulse brings the time since the last one as its operand, is the model's choice (R53, R55, R65, R66, R68,
R76, log 1, 19). -/
def Obligations.FrameArrivalsMoveTheClock : Prop :=
  (∀ s : State,
     let r := s.dev.env.ref
     let next := (r.t + 1) % r.rate.day
     (r.internal = none → exec .internalSourceExpiry s = .next s.quiet.drivePulse) ∧
     (r.internal.isSome → ∃ t, exec .internalSourceExpiry s = .next t ∧ t.ctl = s.ctl ∧ t.dev.env.ref.fc = r.fc + 1 ∧
       (r.pendingLabel = none → t.dev.env.cfg = s.dev.env.cfg ∧
         t.dev.env.ref = { r with fc := r.fc + 1, t := next, internal := some .ownExpiry }) ∧
       (∀ x n, r.pendingLabel = some x → r.rate.read x = some n →
         t.dev.env.ref = { r with
           fc := r.fc + 1, t := n, mismatch := 0, pendingLabel := none, internal := some .ownExpiry } ∧
         ∀ l, t.dev.env.cfg.hardOuts.get l = (s.dev.env.cfg.hardOuts.get l).map (fun h =>
           { h with habs := h.habs - BitVec.ofInt 32 (r.rate.shift ((n : Int) - next)) })))) ∧
  (∀ (s : State) (since : Nat) (x : Label) (n : Nat),
     let r := s.dev.env.ref
     let next := (r.t + 1) % r.rate.day
     let advanced := { r with fc := r.fc + 1, t := next, missingTimer := true }
     r.enabled = true → r.state = .locked → r.pulseAccepted = true → r.rate.period ≤ since * 2 → r.labelCheck = true →
     r.pendingLabel = none → r.rate.read x = some n →
     ∃ t, exec (.referencePulse since (some x)) s = .next t ∧
       (n = next → t.dev.env.ref = { advanced with mismatch := 0 } ∧ t.dev.env.cfg = s.dev.env.cfg) ∧
       (n ≠ next → r.mismatch + 1 < r.slipCount →
         t.dev.env.ref = { advanced with mismatch := min 15 (r.mismatch + 1) } ∧ t.dev.env.cfg = s.dev.env.cfg) ∧
       (n ≠ next → r.slipCount ≤ r.mismatch + 1 →
         t.dev.env.ref = { advanced with t := n, mismatch := 0 } ∧
         (∀ l, t.dev.env.cfg.hardOuts.get l = (s.dev.env.cfg.hardOuts.get l).map (fun h =>
           { h with habs := h.habs - BitVec.ofInt 32 (r.rate.shift ((n : Int) - next)) })) ∧
         t.dev.world.monitor.clockSlip.latched = true ∧
         t.dev.world.monitor.clockSlip.count = min 255 (s.dev.world.monitor.clockSlip.count + 1)))

/-- The reference's pulses and its missing-pulse timer move the reference state as its table gives, and supply frame arrivals in LOCKED.
That a missing-pulse timer which does not run expires to no effect, and that a pulse is judged early by an operand, the time since
the last one, is the model's choice (R56 to R58, log 1, 19). -/
def Obligations.PulsesMoveTheReferenceState : Prop :=
  ∀ (s : State) (since : Nat) (x : Option Label),
    let r := s.dev.env.ref
    let early := r.pulseAccepted = true ∧ since * 2 < r.rate.period
    let accepted := { r with pulseAccepted := true, missingTimer := true }
    let advanced := fun y : RefUnit => { y with fc := r.fc + 1, t := (r.t + 1) % r.rate.day }
    (r.enabled = false ∨ (early ∧ r.state ≠ .acquiring) →
      exec (.referencePulse since x) s = .next s.quiet.drivePulse) ∧
    (r.enabled = true → early → r.state = .acquiring →
      ∃ t, exec (.referencePulse since x) s = .next t ∧ t.dev.env.ref = { r with acquired := 0 }) ∧
    (r.enabled = true → ¬early → r.state = .freeRun →
      ∃ t, exec (.referencePulse since x) s = .next t ∧
        t.dev.env.ref = { accepted with state := .acquiring, acquired := 1 }) ∧
    (r.enabled = true → ¬early → r.state = .acquiring → r.acquired < 15 →
      ∃ t, exec (.referencePulse since x) s = .next t ∧ t.dev.env.ref = { accepted with acquired := r.acquired + 1 }) ∧
    (r.enabled = true → ¬early → r.state = .acquiring → r.acquired = 15 → r.pendingLabel = none → r.labelCheck = false →
      ∃ t, exec (.referencePulse since x) s = .next t ∧
        t.dev.env.ref = advanced { accepted with acquired := 16, state := .locked, internal := none }) ∧
    (r.enabled = true → ¬early → r.state = .locked → r.pendingLabel = none → (r.labelCheck = false ∨ x = none) →
      ∃ t, exec (.referencePulse since x) s = .next t ∧ t.dev.env.ref = advanced accepted) ∧
    (r.missingTimer = false → exec .missingPulseTimer s = .next s.quiet.drivePulse) ∧
    (r.missingTimer = true → r.state = .acquiring →
      ∃ t, exec .missingPulseTimer s = .next t ∧
        t.dev.env.ref = { r with state := .freeRun, acquired := 0, missingTimer := false }) ∧
    (r.missingTimer = true → r.state = .locked → r.pendingLabel = none →
      ∃ t, exec .missingPulseTimer s = .next t ∧
        t.dev.env.ref = advanced { r with
          state := .freeRun, acquired := 0, missingTimer := false, mismatch := 0, internal := some .missingPulse })

/-! ### Lanes -/

/-- START takes an IDLE lane to STANDBY with its first included item as NEXT; a lane already started refuses it. At every derivation and
change notice NEXT is the first included item, an old NEXT being disarmed: PENDING, its clips UNLOADED, its arming failures undone,
its loads and cues forgotten; a lane in WAITING leaves it where NEXT changes, is disarmed or has its elements changed. A notice's
element changes are acted on first. On NEXT a clip ADDED is armed, one RETARGETED waits again UNLOADED, gives up its old entry where
no other clip needs it and is armed anew, one REMOVED gives up its entry, a clip so left the earliest is loaded, and a cue RETARGETED
or REMOVED is cleared. On air an element ADDED makes an admission, one that has fired keeps what it is, and one REMOVED leaves the
lane's lists and every station. Arming resolves a clip, asks its claim, and sends or defers the LOAD of the earliest on its entry; a
CONFLICT makes every clip of the item on the entry so. That the earliest is sought among the WAITING clips, and that a removed cue
leaves every station and its go slot in every fire state, that a FAILED clip turned into another kind waits again with no fail
reason, and that the waiter lists are gone through where a clip leaves an entry, are the model's choices (R26, R44, R97 to R100, R102,
R112, R115, R137 to R139, R147, log 12, 28, 36, 43, 55). -/
def Obligations.StartMakesTheFirstIncludedItemNext : Prop :=
  (∀ (s : State) (tag : Byte) (p : List Byte) (rest : List Request) (n : Nat) (l : Fin 4),
    let w := s.dev.world
    let first := ((w.store.included l (w.lane l).cursor).head?).map (·.key)
    s.Asks 0x40#8 tag p rest → readAll readByte p = some n → place? 4 n = some l →
    ((w.lane l).state ≠ .idle → exec .start s = .next (s.replied rest tag s.begun .wrongState [])) ∧
    ((w.lane l).state = .idle → (w.lane l).Ok →
      ∃ d : Dev, exec .start s = .next (s.replied rest tag d.settle .ok
          (keyBytes (d.settle.world.lane l).next ++ d.settle.laneBytes l)) ∧
        d.env = s.dev.env ∧ s.begun.world.Keeps d.world [l] ∧ (d.world.lane l).state = .standby ∧
        (d.world.lane l).next = first ∧ (d.world.lane l).action = decide (2 ≤ (w.lane l).actionLevel) ∧
        (d.world.lane l).onAir = none ∧ (d.world.lane l).cursor = (w.lane l).cursor ∧
        (d.world.lane l).operator = false ∧
        (∀ k, first = some k → ∃ it, d.world.item? k = some it ∧ it.state = .next) ∧
        d.world.store.records = w.store.records ∧ d.world.store.orders = w.store.orders ∧
        d.world.store.standbys = w.store.standbys)) ∧
  (∀ (e : Env) (w : World) (l : Fin 4) (notice : Notice),
    let first := ((w.store.included l (w.lane l).cursor).head?).map (·.key)
    let w' := World.deriveNext e w l
    let t := World.applyNotice e w l notice
    let aired := notice.onAir.foldl (World.changeOnAir e l) w
    let heard := match (w.lane l).next with
      | some k => notice.next.foldl (World.changeNext e l k) aired
      | none => aired
    let leaves := notice.disarmed = true ∨ first ≠ (w.lane l).next ∨ notice.next ≠ []
    (t.due.get l).recompute = true ∧
    (first = (w.lane l).next → notice.disarmed = false →
      t = (if notice.next = [] then heard else heard.leaveWaiting l).askRecompute l) ∧
    ((w.lane l).state = .idle ∨ first = (w.lane l).next → w' = w) ∧
    ((w.lane l).state ≠ .idle → (∀ k, (w.lane l).next = some k → (w.item? k).isSome) →
      (w'.lane l).next = first ∧ (t.lane l).next = first ∧
      ((w.lane l).state = .waiting → leaves →
        (t.lane l).gate = false ∧ (t.lane l).gateDue = none ∧ (t.lane l).state ≠ .waiting) ∧
      ((w.lane l).state ≠ .waiting ∨ ¬leaves → (t.lane l).state = (w.lane l).state ∧ (t.lane l).gate = (w.lane l).gate) ∧
      w.Keeps w' [l] ∧ (w'.lane l).kept = (w.lane l).kept ∧ (w'.lane l).cursor = (w.lane l).cursor ∧
      w'.store.records = w.store.records ∧
      (∀ k, first = some k → first ≠ (w.lane l).next → ∃ it, w'.item? k = some it ∧ it.state = .next) ∧
      (∀ k, (w.lane l).next = some k → first ≠ some k → ∃ it, w'.item? k = some it ∧ it.state = .pending))) ∧
  (∀ (e : Env) (w : World) (l : Fin 4) (it : Item), w.nextItem? l = some it → w.store.Ok →
    let w' := World.disarm e w l
    (w'.lane l).next = none ∧ (w'.lane l).deferred = [] ∧ (∀ x ∈ (w'.lane l).loadList, x.ref.item ≠ it.ref) ∧
    (∀ x ∈ (w'.lane l).cueList, x.item ≠ it.ref) ∧
    ∃ it', w'.item? it.key = some it' ∧ it'.state = .pending ∧ it'.record = it.record ∧
      ∀ (i : Nat) (el el' : Element), it.elements[i]? = some el → it'.elements[i]? = some el' →
        (el.content.isClip = true → el'.load = .unloaded) ∧
        (if el.fire = .failed ∧ el.failReason ∈ [some .unmapped, some .portFault, some .wrongLane] then
          el'.fire = .waiting ∧ el'.failReason = none
        else el'.fire = el.fire ∧ el'.failReason = el.failReason)) ∧
  (∀ (e : Env) (w : World) (l : Fin 4) (it : Item) (el : Element) (d : Fin 64) (clip : BitVec 32),
    let ref := it.refOf el
    let found := World.resolve e w d
    let asked := found.1.requestClaim l it.key d
    let w' := World.armClip e l w ref
    let failed := fun r : FailReason => found.1.modElem ref (fun x => { x with fire := .failed, failReason := some r })
    w.store.elem? ref = some (it, el) → el.content = .clip d clip →
    (found.2 = .unmapped → w' = failed .unmapped) ∧ (found.2 = .portFault → w' = failed .portFault) ∧
    (∀ t, found.2 = .target t .graphics → w' = World.sendLoadTo e found.1 l it el d t) ∧
    (∀ t, found.2 = .target t .playout → asked.2 = .conflict → w' = asked.1 ∧ l ∈ (w'.map.get d).waiters ∧
      (w'.map.get d).claim = (found.1.map.get d).claim ∧
      (w.store.Ok → ∀ it', found.1.item? it.key = some it' → w'.item? it.key = some { it' with
        elements := it'.elements.map (fun x => if x.isClipOn d then { x with load := .conflict, loadFailure := none } else x) })) ∧
    (∀ t (i : Nat), found.2 = .target t .playout → asked.2 ≠ .conflict → asked.1.item? it.key = some it →
      it.elements[i]? = some el → el.fire = .waiting → el.load = .unloaded →
      (∀ (j : Nat) (x : Element), it.elements[j]? = some x → x.isClipOn d = true → x.fire = .waiting → j ≠ i →
        el.offset < x.offset ∨ (el.offset = x.offset ∧ i < j)) →
      (asked.2 = .granted → w' = World.sendLoadTo e (asked.1.modLane l (fun r =>
        { r with deferred := r.deferred.filter (fun x => decide (x ≠ d)) })) l it el d t) ∧
      (asked.2 = .deferred → w'.store = asked.1.store ∧ w'.ports = asked.1.ports ∧ d ∈ (w'.lane l).deferred))) ∧
  (∀ (e : Env) (w : World) (l : Fin 4) (it : Item) (el : Element) (d : Fin 64) (clip : BitVec 32) (t : Target),
    let ref := it.refOf el
    let r := w.ports.get t.port
    let others := (w.lane l).loadList.filter (fun x => decide (x.ref ≠ ref))
    let w' := World.sendLoadTo e w l it el d t
    let el' := (w'.store.elem? ref).map (·.2)
    w.store.elem? ref = some (it, el) → el.content = .clip d clip →
    (r.state ≠ .inService → (w'.lane l).loadList = others ∧
      el' = some { el with load := .loadFailed, loadTarget := some t, loadFailure := some .portFault }) ∧
    (r.state = .inService → 4 ≤ (r.fifos.get l).length → (w'.lane l).loadList = others ∧
      el' = some { el with load := .loadFailed, loadTarget := some t, loadFailure := some .portBusy }) ∧
    (r.state = .inService → (r.fifos.get l).length < 4 →
      (w'.lane l).loadList = others ++ [{ ref := ref, key := it.key, device := d, target := t, number := w.loads }] ∧
      el' = some { el with load := .loading, loadTarget := some t, loadFailure := none })) ∧
  (∀ (e : Env) (w : World) (l : Fin 4) (k : Nat) (ref : ElemRef) (old : Element) (index : Nat),
    let unlisted := fun v : World => v.modLane l (fun r =>
      { r with loadList := r.loadList.filter (fun x => decide (x.ref ≠ ref)) })
    let uncued := fun v : World => v.modLane l (fun r => { r with cueList := r.cueList.filter (fun x => decide (x ≠ ref)) })
    let undeferred := fun (v : World) (d : Fin 64) => v.modLane l (fun r =>
      { r with deferred := r.deferred.filter (fun x => decide (x ≠ d)) })
    let fresh := w.modElem ref (fun x =>
      if old.content.isClip = true then
        { x with fire := .waiting, failReason := none, load := .unloaded, loadTarget := none, loadFailure := none }
      else { x with fire := .waiting, failReason := none })
    let given := fun (v : World) (it : Item) (d : Fin 64) => if it.hasClipOn d = true then unlisted v else
      (undeferred (World.releaseUse e l k (unlisted v) d) d).cleanWaiters l
    let later := fun (v w' : World) (d : Fin 64) (index : Nat) =>
      ∀ it, v.item? k = some it → (it.elements.map (·.ref)).Nodup →
      ((∀ x ∈ it.elements, x.isClipOn d = true → x.fire ≠ .waiting) → w' = v) ∧
      ∀ (i : Nat) (x : Element), it.elements[i]? = some x → x.isClipOn d = true → x.fire = .waiting →
        (∀ (j : Nat) (y : Element), it.elements[j]? = some y → y.isClipOn d = true → y.fire = .waiting → j ≠ i →
          x.offset < y.offset ∨ (x.offset = y.offset ∧ i < j)) →
        let due := (old.offset < x.offset ∨ (old.offset = x.offset ∧ index ≤ i)) ∧ x.load = .unloaded ∧
          ∃ c, (v.map.get d).claim = some c ∧ c.lane = l ∧ k ∈ c.users
        (¬due → w' = v) ∧ (due → v.isDeferred l k d = false → w' = World.sendLoad e (undeferred v d) l it x d) ∧
        (due → v.isDeferred l k d = true → w'.store = v.store ∧ w'.ports = v.ports ∧ d ∈ (w'.lane l).deferred)
    World.changeNext e l k w (.added ref) = World.armClip e l w ref ∧ World.changeNext e l k w (.retimed ref) = w ∧
    (∀ it d clip, w.item? k = some it → old.content = .clip d clip →
      later (given w it d) (World.changeNext e l k w (.removed ref old index)) d index) ∧
    (∀ st lead gating, old.content = .cue st lead gating →
      World.changeNext e l k w (.removed ref old index) = uncued (World.clearCue e w st ref false) ∧
      World.changeNext e l k w (.retargeted ref old) = World.armClip e l (uncued (World.clearCue e fresh st ref false)) ref) ∧
    (old.content.isClip = false → old.content.station? = none →
      World.changeNext e l k w (.removed ref old index) = w ∧
      World.changeNext e l k w (.retargeted ref old) = World.armClip e l fresh ref) ∧
    (∀ it el i d clip, w.item? k = some it → w.store.elem? ref = some (it, el) → it.elements[i]? = some el →
      (it.elements.map (·.ref)).Nodup → old.content = .clip d clip →
      (el.isClipOn d = true → World.changeNext e l k w (.retargeted ref old) = World.armClip e l (unlisted fresh) ref) ∧
      (el.isClipOn d = false →
        later (World.armClip e l (given fresh it d) ref) (World.changeNext e l k w (.retargeted ref old)) d i))) ∧
  (∀ (e : Env) (w : World) (l : Fin 4) (ref : ElemRef) (old : Element) (index : Nat), w.store.Ok →
    let cleared := World.clearCueEverywhere e (w.modLane l (fun r =>
      { r with loadList := r.loadList.filter (fun x => decide (x.ref ≠ ref))
               cueList := r.cueList.filter (fun x => decide (x ≠ ref)) })) ref
    let admitted := fun v : World => World.testCompleted e w (World.admitNext e v l) l
    ((∀ st, (w.stations.get st).go ≠ none → (w.stations.get st).lane ≠ none) →
      ∀ st, (∀ c, (cleared.stations.get st).standby = some c → c.req.ref ≠ ref) ∧
        (∀ x ∈ (cleared.stations.get st).waiting, x.ref ≠ ref) ∧ (∀ g, (cleared.stations.get st).go = some g → g.ref ≠ ref)) ∧
    cleared.store = w.store ∧ cleared.ports = w.ports ∧ cleared.map = w.map ∧ cleared.monitor = w.monitor ∧
    (old.fire ≠ .queued → World.changeOnAir e l w (.removed ref old index) = cleared) ∧
    (old.fire = .queued → World.changeOnAir e l w (.removed ref old index) = admitted (cleared.modLane l (fun r =>
      { r with fireQueue := r.fireQueue.filter (fun x => decide (x.ref ≠ ref)) }))) ∧
    (∀ it el, w.store.elem? ref = some (it, el) →
      ((w.lane l).passCount = 0 ∨ it.cycle = none → World.changeOnAir e l w (.added ref) = admitted w) ∧
      (el.fire = .waiting → World.changeOnAir e l w (.retimed ref) = admitted w) ∧
      (el.fire ≠ .waiting → el.fire ≠ .queued → World.changeOnAir e l w (.retimed ref) = w ∧
        World.changeOnAir e l w (.retargeted ref old) = w) ∧
      (el.fire = .waiting → World.changeOnAir e l w (.retargeted ref old) =
        if el.offset = old.offset then w else admitted w)))

/-- STOP takes a lane off air to IDLE: an ORDER item on air is DONE and the standby item PENDING again, NEXT is disarmed, the lane's cues
leave every station, every held-by flag is cleared, the cursor and the last take are kept, and OVER and UNDER of the lane end; a
lane that is IDLE refuses it (R8, R15, R102, R116, R140, R192). -/
def Obligations.StopTakesALaneOffAir : Prop :=
  ∀ (s : State) (tag : Byte) (p : List Byte) (rest : List Request) (n : Nat) (l : Fin 4),
    let w := s.dev.world
    s.Asks 0x41#8 tag p rest → readAll readByte p = some n → place? 4 n = some l →
    ((w.lane l).state = .idle → exec .stop s = .next (s.replied rest tag s.begun .wrongState [])) ∧
    ((w.lane l).state ≠ .idle → w.store.Ok → w.store.Placed →
      ∃ d : Dev, exec .stop s = .next (s.replied rest tag d.settle .ok
          (keyBytes (w.lane l).onAir ++ d.settle.laneBytes l)) ∧
        d.env = s.dev.env ∧ (∀ l', l' ≠ l → (d.world.lane l').standing = (w.lane l').standing) ∧
        (d.world.lane l).state = .idle ∧ (d.world.lane l).onAir = none ∧ (d.world.lane l).next = none ∧
        (d.world.lane l).operator = false ∧ (d.world.lane l).action = false ∧ (d.world.lane l).gate = false ∧
        (d.world.lane l).gateDue = none ∧ (d.world.lane l).lastTake = (w.lane l).lastTake ∧
        (d.world.monitor.overI.get l).active = false ∧ (d.world.monitor.underI.get l).active = false ∧
        d.world.monitor.overCount.get l = 0 ∧ d.world.monitor.underCount.get l = 0 ∧
        (∀ k old old', (w.lane l).onAir = some k → (w.lane l).next ≠ some k → w.item? k = some old → old.place = .order →
          d.world.item? k = some old' → old'.state = .done ∧ old'.actual = some (min (old.elapsed s.dev.env) 1048575)) ∧
        (∀ k old, (w.lane l).onAir = some k → (w.lane l).next ≠ some k → w.item? k = some old → old.place = .standby →
          ∃ old', d.world.item? k = some old' ∧ old'.state = .pending ∧ old'.start = none ∧ old'.effPlanned = none ∧
            old'.content = old.content) ∧
        (∀ k, (w.lane l).cursor = some k → (d.world.item? k).isSome → (d.world.lane l).cursor = some k) ∧
        ((w.lane l).cursor = none → (d.world.lane l).cursor = none) ∧
        (∀ st, (∀ c, (d.world.stations.get st).standby = some c → c.req.lane ≠ l) ∧
          (∀ q ∈ (d.world.stations.get st).waiting, q.lane ≠ l) ∧
          ((w.stations.get st).lane = some l → (d.world.stations.get st).go = none)) ∧
        (∀ k it, (w.lane l).next = some k → (w.lane l).onAir ≠ some k → w.item? k = some it → it.state = .next →
          ∃ it', d.world.item? k = some it' ∧ it'.state = .pending ∧ it'.record = it.record))

/-- A TAKE and a panel TAKE put NEXT on air; a take in IDLE, inside the take guard, of a lane with no NEXT, or with another NEXT than it
expects is refused, and the panel's is then no take. An auto-take comes due in RUNNING for an ORDER item whose time is up or whose
end clip has ended; evaluated, it is not made inside the guard, diverts to the standby item at level 1, does nothing without NEXT,
waits on a gate not satisfied, and otherwise takes NEXT (R79, R104 to R109, R111, R114, R117). -/
def Obligations.TakePutsNextOnAir : Prop :=
  (∀ (s : State) (tag : Byte) (p : List Byte) (rest : List Request) (n : Nat) (expected : Option Nat) (l : Fin 4),
    let w := s.dev.world
    let guard := ∀ t, (w.lane l).lastTake = some t → ((s.dev.env.cfg.lanes.get l).takeGuard : Int) ≤ fcDist t s.dev.env.ref.fc
    s.Asks 0x42#8 tag p rest → readAll readTake p = some (n, expected) → place? 4 n = some l → expected ≠ some 0 →
    ((w.lane l).state = .idle → exec .take s = .next (s.replied rest tag s.begun .wrongState [])) ∧
    ((w.lane l).state ≠ .idle → (w.lane l).next = none → exec .take s = .next (s.replied rest tag s.begun .noNext [])) ∧
    (∀ k it, (w.lane l).state ≠ .idle → (w.lane l).next = some k →
      (expected ≠ none → expected ≠ some k → exec .take s = .next (s.replied rest tag s.begun .stale [])) ∧
      ((expected = none ∨ expected = some k) → ¬guard → exec .take s = .next (s.replied rest tag s.begun .tooSoon [])) ∧
      ((expected = none ∨ expected = some k) → guard → w.item? k = some it → it.state = .next →
        (w.lane l).onAir ≠ some k → w.store.Ok → w.store.Placed →
        ∃ d : Dev, exec .take s = .next (s.replied rest tag d.settle .ok (d.settle.takeBytes l)) ∧
          d.env = s.dev.env ∧ World.Took s.dev.env s.begun.world d.world l it))) ∧
  (∀ (s : State) (l : Fin 4),
    let w := s.dev.world
    let guard := ∀ t, (w.lane l).lastTake = some t → ((s.dev.env.cfg.lanes.get l).takeGuard : Int) ≤ fcDist t s.dev.env.ref.fc
    (s.pins.take.get l = true → exec (.panelTake l) s = .next s.quiet.drivePulse) ∧
    (s.pins.take.get l = false → ((w.lane l).state = .idle ∨ (w.lane l).next = none ∨ ¬guard) →
      exec (.panelTake l) s =
        .next (State.drivePulse { s with dev := s.begun, pins := s.pins.line l .take true })) ∧
    (∀ k it, s.pins.take.get l = false → (w.lane l).state ≠ .idle → (w.lane l).next = some k → guard →
      w.item? k = some it → it.state = .next → (w.lane l).onAir ≠ some k → w.store.Ok → w.store.Placed →
      ∃ d : Dev, exec (.panelTake l) s =
          .next (State.drivePulse { s with dev := d.settle, pins := s.pins.line l .take true }) ∧
        d.env = s.dev.env ∧ World.Took s.dev.env s.begun.world d.world l it)) ∧
  (∀ (e : Env) (w : World) (l : Fin 4),
    let due := ∃ it, w.onAirItem? l = some it ∧ it.place = .order ∧
      ((it.endMode = .timed ∧ it.effPlanned.getD 0 ≤ it.elapsed e) ∨
        ∃ i el, it.endMode = .clip i ∧ it.elements[i]? = some el ∧ el.fire = .ended)
    ((w.lane l).state = .running → due → World.testAuto e w l = World.evalAuto e w l) ∧
    ((w.lane l).state ≠ .running ∨ ¬due → World.testAuto e w l = w)) ∧
  (∀ (e : Env) (w : World) (l : Fin 4),
    let r := w.lane l
    let guard := ∀ t, r.lastTake = some t → ((e.cfg.lanes.get l).takeGuard : Int) ≤ fcDist t e.ref.fc
    let diverts := r.actionLevel = 1 ∧ (r.next = none ∨ (w.monitor.notReady.get l).active = true) ∧
      w.store.standbys.get l ≠ none
    (¬guard → World.evalAuto e w l = w) ∧
    (∀ k it, guard → diverts → r.state ≠ .idle → w.store.standbys.get l = some k → w.item? k = some it →
      it.place = .standby → r.onAir ≠ some k →
      (∀ n, r.next = some n → r.onAir ≠ some n ∧ ∃ x, w.item? n = some x ∧ x.state = .next ∧ x.place = .order) →
      w.store.Ok → w.store.Placed → World.Filled e w (World.evalAuto e w l) l it) ∧
    (guard → ¬diverts → r.next = none → World.evalAuto e w l = w) ∧
    (∀ it on, guard → ¬diverts → r.state ≠ .idle → w.nextItem? l = some it → w.onAirItem? l = some on →
      on.place = .order → r.operator = false → r.action = false →
      (∃ el st lead, it.gating? = some el ∧ el.content = .cue st lead true ∧
        ∀ c, (w.stations.get st).standby = some c → c.req.ref = it.refOf el → c.response ≠ .ready) →
      World.evalAuto e w l = w.setLane l { r with gate := true, gateDue := some e.ref.fc, state := .waiting }) ∧
    (∀ it, guard → ¬diverts → r.state ≠ .idle → w.nextItem? l = some it → it.state = .next → r.onAir ≠ some it.key →
      w.store.Ok → w.store.Placed →
      (it.gating? = none ∨ ∃ el st lead c, it.gating? = some el ∧ el.content = .cue st lead true ∧
        (w.stations.get st).standby = some c ∧ c.req.ref = it.refOf el ∧ c.response = .ready) →
      World.Took e w (World.evalAuto e w l) l it))

/-- HOLD and a panel HOLD set OPERATOR and clear GATE; RESUME clears OPERATOR; the state follows the flags, and nothing else changes,
but that a RESUME which leaves the lane RUNNING with its auto-take due evaluates the auto-take at once; IDLE refuses both. That an AMEND
made since the last frame arrival counts at the RESUME is the model's choice (R95, R96, R107, R114, R118, R119, log 60). -/
def Obligations.HoldAndResumeMoveOperator : Prop :=
  (∀ (s : State) (tag : Byte) (p : List Byte) (rest : List Request) (n : Nat) (l : Fin 4),
    let w := s.begun.world
    let r := w.lane l
    let held : LaneRec := { r with
      operator := true, gate := false, gateDue := none
      state := match w.onAirItem? l with
        | none => .standby
        | some it => if it.place = .standby then .filling else .held }
    let freed : LaneRec := { r with
      operator := false
      state := match w.onAirItem? l with
        | none => .standby
        | some it => if it.place = .standby then .filling else if r.action then .held else if r.gate then .waiting
            else .running }
    readAll readByte p = some n → place? 4 n = some l →
    (s.Asks 0x43#8 tag p rest → r.state = .idle → exec .hold s = .next (s.replied rest tag s.begun .wrongState [])) ∧
    (s.Asks 0x43#8 tag p rest → r.state ≠ .idle → r.operator = true →
      exec .hold s = .next (s.replied rest tag s.begun .ok (s.begun.laneBytes l))) ∧
    (s.Asks 0x43#8 tag p rest → r.state ≠ .idle → r.operator = false →
      exec .hold s = .next (s.replied rest tag (Dev.settle { s.begun with world := w.setLane l held }) .ok
        ((Dev.settle { s.begun with world := w.setLane l held }).laneBytes l))) ∧
    (s.Asks 0x44#8 tag p rest → r.state = .idle → exec .resume s = .next (s.replied rest tag s.begun .wrongState [])) ∧
    (s.Asks 0x44#8 tag p rest → r.state ≠ .idle → r.operator = false →
      exec .resume s = .next (s.replied rest tag s.begun .ok (s.begun.laneBytes l))) ∧
    (s.Asks 0x44#8 tag p rest → r.state = .held → r.operator = true → freed.state = .running →
      World.autoDue s.dev.env w l = true →
      exec .resume s = .next (s.replied rest tag
        (Dev.settle { s.begun with world := World.evalAuto s.dev.env (w.setLane l freed) l }) .ok
        ((Dev.settle { s.begun with world := World.evalAuto s.dev.env (w.setLane l freed) l }).laneBytes l))) ∧
    (s.Asks 0x44#8 tag p rest → r.state ≠ .idle → r.operator = true →
      (r.state ≠ .held ∨ freed.state ≠ .running ∨ World.autoDue s.dev.env w l = false) →
      exec .resume s = .next (s.replied rest tag (Dev.settle { s.begun with world := w.setLane l freed }) .ok
        ((Dev.settle { s.begun with world := w.setLane l freed }).laneBytes l))) ∧
    (s.pins.hold.get l = false → r.state ≠ .idle → r.operator = false →
      exec (.panelHold l) s = .next (State.drivePulse { s with
        dev := Dev.settle { s.begun with world := w.setLane l held }, pins := s.pins.line l .hold true })) ∧
    (s.pins.hold.get l = false → (r.state = .idle ∨ r.operator = true) →
      exec (.panelHold l) s =
        .next (State.drivePulse { s with dev := s.begun, pins := s.pins.line l .hold true })) ∧
    (s.pins.hold.get l = true → exec (.panelHold l) s = .next s.quiet.drivePulse))

/-- LANECFG writes the settings it carries, clamped, into one lane's configuration and leaves the others; a safe list keeps each device
once; where the fit mode or the lock window changes the lane is recomputed, and otherwise nothing follows (R73, R89, R93, R120). -/
def Obligations.LanecfgWritesTheSettingsItCarries : Prop :=
  ∀ (s : State) (tag : Byte) (p : List Byte) (rest : List Request) (q : LanecfgReq) (l : Fin 4) (mode : Option FitMode),
    let c := s.dev.env.cfg.lanes.get l
    let c' : LaneCfg := { c with
      fitMode := mode.getD c.fitMode, lockWindow := q.lockWindow.getD c.lockWindow
      lateTolerance := q.lateTolerance.getD c.lateTolerance, takeGuard := (q.takeGuard.map (min 50)).getD c.takeGuard
      doneRetain := (q.doneRetain.map (min 64)).getD c.doneRetain, gateTimeout := q.gateTimeout.getD c.gateTimeout
      noNextWarn := q.noNextWarn.getD c.noNextWarn
      safeList := match q.safeList with
        | none => c.safeList
        | some ns => (ns.filterMap (place? 64)).eraseDups }
    s.Asks 0x45#8 tag p rest → readAll readLanecfg p = some q → place? 4 q.lane = some l →
    ((q.fitMode = none ∧ mode = none) ∨ ∃ n, q.fitMode = some n ∧ fitMode? n = mode ∧ mode ≠ none) →
    (∀ ns, q.safeList = some ns → ns.length ≤ 8 ∧ ∀ n ∈ ns, n < 64) →
    ∃ d : Dev, exec .lanecfg s = .next (s.replied rest tag d .ok (laneCfgBytes c')) ∧
      d.env = { s.dev.env with cfg := { s.dev.env.cfg with lanes := s.dev.env.cfg.lanes.set l c' } } ∧
      (c'.fitMode = c.fitMode → c'.lockWindow = c.lockWindow → d.world = s.begun.world) ∧
      (c'.fitMode ≠ c.fitMode ∨ c'.lockWindow ≠ c.lockWindow →
        (let due := s.dev.world.due.set l { s.dev.world.due.get l with recompute := true }
         d = Dev.settle { d with world := { s.begun.world with due := due } }) ∧
        (d.world.timing.get l).computedAt = s.dev.env.ref.fc)

/-- CLEARLANE frees every item of an IDLE lane and returns its configuration to the defaults; other lanes keep theirs; in what order the
records join the pools is the model's choice (R24, R121, log 20). -/
def Obligations.ClearlaneEmptiesAnIdleLane : Prop :=
  ∀ (s : State) (tag : Byte) (p : List Byte) (rest : List Request) (n : Nat) (l : Fin 4),
    let w := s.dev.world
    let S := w.store
    let mine := S.itemsOf (S.orders.get l ++ (S.standbys.get l).toList)
    s.Asks 0x46#8 tag p rest → readAll readByte p = some n → place? 4 n = some l →
    ((w.lane l).state ≠ .idle → exec .clearlane s = .next (s.replied rest tag s.begun .busy [])) ∧
    ((w.lane l).state = .idle → (w.lane l).Ok → S.Ok → S.Placed →
      ∃ d : Dev, exec .clearlane s = .next (s.replied rest tag d.settle .ok
          (be 2 mine.length ++ be 2 (mine.map (·.elements.length)).sum)) ∧
        d.env.ref = s.dev.env.ref ∧
        d.env.cfg = { s.dev.env.cfg with
          lanes := s.dev.env.cfg.lanes.set l LaneCfg.default, hardOuts := s.dev.env.cfg.hardOuts.set l none } ∧
        s.begun.world.Keeps d.world [l] ∧
        (d.world.lane l).standing = { (w.lane l).standing with cursor := none, lastTake := none } ∧
        d.world.store.records = S.records.filter (fun i => decide (i.lane ≠ l)) ∧
        d.world.store.orders = S.orders.set l [] ∧ d.world.store.standbys = S.standbys.set l none ∧
        d.world.store.freeItems = S.freeItems ++ mine.map (·.ref) ∧
        d.world.store.freeElements = S.freeElements ++ mine.flatMap (fun it => it.elements.map (·.ref)))

/-- What a frame arrival makes due in a lane. A gate that has waited its timeout ends in HELD under OPERATOR with GATE_TIMEOUT latched, and
a last take more than 50 frames back is forgotten; a test already made, or not due, changes nothing else (log 6). Every block works
once, in a free order (log 5); a lane fires what is due, tests its cycle and then its auto-take. Entries that are due fire in order,
each departure admitting once; the earliest WAITING element takes an entry, displaces a later last one, fires at once when due, is
SKIPPED when too late; a cycle whose range is spent is re-admitted for the next pass. What one arrival admits it fires in the queue's
order, and which completions test the range, are read from the rules (R53, R104, R113, R123 to R127, R135, R136, log 10, 11). -/
def Obligations.GateTimeoutAndLastTakeTests : Prop :=
  (∀ (s : State) (l : Fin 4),
    let w := s.begun.world
    let r := w.lane l
    (r.gateTick = none → exec (.gateTimeout l) s = .next s.quiet.drivePulse) ∧
    (∀ timeout due it, r.gateTick = some timeout → timeout ≠ 0 → r.state = .waiting → r.gateDue = some due →
      (timeout : Int) ≤ fcDist due s.dev.env.ref.fc → w.onAirItem? l = some it → it.place = .order →
      ∃ d : Dev, exec (.gateTimeout l) s = .next (State.drivePulse { s with dev := d.settle }) ∧ d.env = s.dev.env ∧
        d.world.lanes = w.lanes.set l { r with
          gateTick := none, operator := true, gate := false, gateDue := none, state := .held } ∧
        (let i := w.monitor.gateTimeout.get l
         let i' : Inst := { i with latched := true, count := min 255 (i.count + 1) }
         d.world.monitor = { w.monitor with gateTimeout := w.monitor.gateTimeout.set l i' }) ∧
        d.world.store = w.store) ∧
    (∀ timeout, r.gateTick = some timeout →
      (timeout = 0 ∨ r.state ≠ .waiting ∨ ∀ due, r.gateDue = some due → fcDist due s.dev.env.ref.fc < timeout) →
      exec (.gateTimeout l) s = .next (State.drivePulse { s with
        dev := Dev.settle { s.begun with world := w.setLane l { r with gateTick := none } } })) ∧
    (r.lastTick = false → exec (.lastTakeClear l) s = .next s.quiet.drivePulse) ∧
    (∀ t, r.lastTick = true → r.lastTake = some t →
      exec (.lastTakeClear l) s = .next (State.drivePulse { s with dev := { s.begun with world := w.setLane l { r with
        lastTick := false, lastTake := if 50 < fcDist t s.dev.env.ref.fc then none else some t } } }))) ∧
  (∀ s : State, s.dev.env.ref.internal.isSome → ∃ (left order : List Task) (n : Nat),
    let d := Dev.arrive { s.begun with world := World.runTasks s.dev.env s.begun.world left }
      { s.dev.env.ref with internal := some .ownExpiry } none
    left.Perm s.begun.world.leftTasks ∧
    order.Perm ((places 4).map .engine ++ (places 4).map .lane ++
      (if d.env.ref.rate.secondBoundary d.env.ref.t then .boundary :: (places 4).map .evaluate else [])) ∧
    exec .internalSourceExpiry s = .next (State.drivePulse { s with
      free := n, dev := { d with world := World.runTasks d.env d.world order } })) ∧
  (∀ (e : Env) (w : World) (l : Fin 4) (n : Nat),
    let q := (w.lane l).fireQueue
    let tested := World.cycleTest e (World.fireArrival e w l) l
    ((tested.lane l).state ≠ .waiting → Task.work e w (.lane l) = World.testAuto e tested l) ∧
    ((∀ x ∈ q, x.asked = false ∧ ∀ p, x.standbyPoint = some p → 0 < fcDist e.ref.fc p) →
      World.fireArrival e w l = World.fireDue e l 80 w) ∧
    ((∀ x ∈ q, x.waitLoad = true ∨ fcDist x.due e.ref.fc < 0) → World.fireDue e l n w = w) ∧
    (∀ (ahead : List FireEntry) (en : FireEntry) (behind : List FireEntry), q = ahead ++ en :: behind →
      (∀ x ∈ ahead, x.waitLoad = true) → en.waitLoad = false → 0 ≤ fcDist en.due e.ref.fc →
      let r := World.fireElement e w l en.ref en.due
      World.fireDue e l (n + 1) w = World.fireDue e l n
        (if r.2 then r.1.modQueue l (fun q => q.map (fun x => if x.ref = en.ref then { x with waitLoad := true } else x))
        else World.admitOne e l true 80 (r.1.dropEntry l en.ref)))) ∧
  (∀ (e : Env) (w : World) (l : Fin 4) (it : Item) (i : Nat) (el : Element),
    let q := (w.lane l).fireQueue
    let ref := it.refOf el
    let due := it.due el
    let late := fcDist due e.ref.fc
    let full := fun last : FireEntry => q.length = 16 ∧ q.getLast? = some last
    let passes := fun last : FireEntry => last.waitLoad = false ∧
      (0 < fcDist due last.due ∨ (due = last.due ∧ i < it.entryIndex last))
    let en : FireEntry :=
      { ref := ref, due := due, standbyPoint := none, asked := (w.lane l).cueList.contains ref, waitLoad := false }
    w.onAirItem? l = some it → it.elements[i]? = some el → el.fire = .waiting →
    (∀ (j : Nat) (x : Element), it.elements[j]? = some x → x.fire = .waiting → j ≠ i →
      0 < fcDist due (it.due x) ∨ (due = it.due x ∧ i < j)) →
    (∀ last, full last → ¬passes last → World.admitNext e w l = w) ∧
    (((e.cfg.lanes.get l).lateTolerance : Int) < late → (q.length < 16 ∨ ∃ last, full last ∧ passes last) →
      World.admitNext e w l = World.admitOne e l false 79
        (w.modElem ref (fun x => { x with fire := .skipped, failReason := some .late }))) ∧
    (∀ base : World, el.content.station? = none → late ≤ (e.cfg.lanes.get l).lateTolerance →
      ((q.length < 16 ∧ base = w.modQueue l (fun _ => q)) ∨ ∃ last, full last ∧ passes last ∧
        base = (w.modQueue l (fun _ => q.dropLast)).modElem last.ref (fun x => { x with fire := .waiting })) →
      let queued := (base.modElem ref (fun x => { x with fire := .queued })).modQueue l (placeEntry it en)
      (late < 0 → World.admitNext e w l = queued) ∧
      (0 ≤ late →
        let r := World.fireElement e queued l ref due
        World.admitNext e w l = if r.2 then
            r.1.modQueue l (fun q => q.map (fun x => if x.ref = ref then { x with waitLoad := true } else x))
          else World.admitOne e l false 79 (r.1.dropEntry l ref)))) ∧
  (∀ (e : Env) (w : World) (l : Fin 4) (it : Item) (c : Cycle),
    let range := (it.elements.drop c.first).take (c.last + 1 - c.first)
    let k := (w.lane l).passCount + 1
    w.onAirItem? l = some it → it.cycle = some c → c.first ≤ c.last → c.first < it.elements.length →
    (∀ x ∈ it.elements, x.offset ≤ 1048575) →
    ∃ period : Nat, it.cycleRange = some (c.first, min c.last (it.elements.length - 1), period) ∧
      it.cycleElements = range ∧ (∀ x ∈ range, ∀ y ∈ range, x.offset < y.offset + period) ∧
      (period = c.period ∨ ∃ x ∈ range, ∃ y ∈ range, period = x.offset - y.offset + 1 ∧ c.period < period) ∧
      ((∃ x ∈ range, x.fire = .waiting ∨ x.fire = .queued) → World.cycleTest e w l = w) ∧
      ((∀ x ∈ range, x.fire ≠ .waiting ∧ x.fire ≠ .queued) →
        (let w1 := World.readmitRange e w l it period
         let w2 := World.fillQueue e l Item.cycleElements 80 w1
         (World.completed w1 w2 l = false → World.cycleTest e w l = w2) ∧
         (w.store.Ok → (∀ x ∈ range, x.content.isClip = false) → (w1.lane l).passCount = k ∧ ∀ x ∈ range,
           it.refOf x ∉ (w1.lane l).cueList ∧ (w1.store.elem? (it.refOf x)).map (·.2) = some { x with
             fire := .waiting, failReason := none, late := false, pass := k
             shift := k * BitVec.ofNat 32 period }))))

/-! ### The device map and the ports -/

/-- MAP reads an entry, writes it VALID with its active side MAIN and its claim and waiters as they were, or makes it INVALID; where it
was a VALID GRAPHICS entry and its service changed, each lane then treats its loaded clips on it as RETARGETED, and nothing follows
where there is none; a PLAYOUT entry with a holder refuses both with BUSY; no other entry's service changes. That a change of the backup
side alone retargets is read from the rule, and that lanes are taken from 0 to 3 is the model's choice (R141, R155, R156, log 29,
17). -/
def Obligations.MapWritesOneEntry : Prop :=
  ∀ (s : State) (tag : Byte) (p : List Byte) (rest : List Request) (n : Nat) (form : MapForm) (i : Fin 64),
    let w := s.dev.world
    let old := w.map.get i
    let held := old.cls = .playout ∧ old.claim ≠ none
    let same := fun w' : World => w'.store.records = w.store.records ∧ w'.store.orders = w.store.orders ∧
      (∀ l, (w'.lane l).standing = (w.lane l).standing) ∧ (∀ j, j ≠ i → (w'.map.get j).service = (w.map.get j).service) ∧
      (∀ x, (w'.ports.get x).standing = (w.ports.get x).standing) ∧
      (∀ st, (w'.stations.get st).standing = (w.stations.get st).standing) ∧ w'.monitor = w.monitor
    let wrote := fun (w' : World) (m : MapEntry) =>
      let set := s.begun.world.setEntry i m
      let remaps := old.valid = true ∧ old.cls = .graphics ∧
        ¬(old.valid = m.valid ∧ old.cls = m.cls ∧ old.main = m.main ∧ old.backup = m.backup ∧ old.active = m.active)
      let loaded := ∃ l k it el, k ∈ (w.lane l).heldKeys ∧ w.item? k = some it ∧ el ∈ it.elements ∧
        el.isLoadedUnrolled i = true
      (remaps → w' = (places 4).foldl (World.remapLane s.dev.env i) set) ∧ (¬remaps ∨ ¬loaded → w' = set)
    s.Asks 0x50#8 tag p rest → readAll readMap p = some (n, form) → place? 64 n = some i →
    (form = .read → exec .map s = .next (s.replied rest tag s.begun .ok (s.begun.entryBytes i))) ∧
    (form = .invalid → held → exec .map s = .next (s.replied rest tag s.begun .busy [])) ∧
    (form = .invalid → ¬held →
      ∃ d : Dev, exec .map s = .next (s.replied rest tag d.settle .ok (d.settle.entryBytes i)) ∧
        d.env = s.dev.env ∧ (d.world.map.get i).service = MapEntry.invalid.service ∧ same d.world ∧
        wrote d.world { valid := false, cls := .playout, main := ⟨0, 0⟩, backup := none, active := .main,
                        autoFailover := false, preroll := 0, claim := none, waiters := [] }) ∧
    (∀ clsByte mainBytes backupBytes autoFailover preroll cls main backup,
      form = .valid clsByte mainBytes backupBytes autoFailover preroll → devClass? clsByte = some cls →
      target? mainBytes = some main →
      ((backupBytes = none ∧ backup = none) ∨ ∃ x, backupBytes = some x ∧ target? x = backup ∧ backup ≠ none) →
      backup ≠ some main →
      (held → exec .map s = .next (s.replied rest tag s.begun .busy [])) ∧
      (¬held →
      (∀ j, j ≠ i → (w.map.get j).valid = true → (cls = .playout ∨ (w.map.get j).cls = .playout) →
        ∀ t ∈ main :: backup.toList, t ∉ (w.map.get j).main :: (w.map.get j).backup.toList) →
      ∃ d : Dev, exec .map s = .next (s.replied rest tag d.settle .ok (d.settle.entryBytes i)) ∧
        let m : MapEntry :=
          { valid := true, cls := cls, main := main, backup := backup, active := .main, autoFailover := autoFailover
            preroll := min 1023 preroll, claim := old.claim, waiters := old.waiters }
        d.env = s.dev.env ∧ same d.world ∧ wrote d.world m ∧ (d.world.map.get i).service = m.service ∧
        (old.Ok → cls = .graphics → (d.world.map.get i).claim = none ∧ (d.world.map.get i).waiters = [])))

/-- SIDE makes the side it names the active one, keeping claim and waiters; an INVALID entry and a side whose port is not IN_SERVICE
refuse it with WRONG_STATE, and a side that the entry has not with BAD_ARG. A resolution answers with the active side while its port
is IN_SERVICE, and finds a FAULTED one's backup by the switch, which moves a VALID entry with auto failover from MAIN to a backup
IN_SERVICE; a port that faults tries it for each of its entries. Re-pointing sends the LOAD of every clip loaded and not rolled to
the new side; the order of lanes, items and clips in it, and of a faulted port's entries, is the model's choice (R143 to R145, R157,
log 17, 45). -/
def Obligations.SideMovesTheActiveSide : Prop :=
  (∀ (s : State) (tag : Byte) (p : List Byte) (rest : List Request) (n code : Nat) (side : Side) (i : Fin 64),
    let w := s.dev.world
    let m := w.map.get i
    let target := match side with
      | .main => some m.main
      | .backup => m.backup
    s.Asks 0x51#8 tag p rest → readAll readSideReq p = some (n, code) → place? 64 n = some i → side? code = some side →
    (m.valid = false → exec .side s = .next (s.replied rest tag s.begun .wrongState [])) ∧
    (m.valid = true → target = none → exec .side s = .next (s.replied rest tag s.begun .badArg [])) ∧
    (∀ t, m.valid = true → target = some t →
      ((w.ports.get t.port).state ≠ .inService → exec .side s = .next (s.replied rest tag s.begun .wrongState [])) ∧
      ((w.ports.get t.port).state = .inService → m.active = side →
        exec .side s = .next (s.replied rest tag s.begun .ok (s.begun.entryBytes i))) ∧
      ((w.ports.get t.port).state = .inService → m.active ≠ side →
        ∃ d : Dev, exec .side s = .next (s.replied rest tag d.settle .ok (d.settle.entryBytes i)) ∧
          d.env = s.dev.env ∧ d.world.map = w.map.set i { m with active := side } ∧
          d.world = World.repoint s.dev.env (s.begun.world.setEntry i { m with active := side }) i ∧
          s.begun.world.Keeps d.world [] ∧ d.world.store.records = w.store.records))) ∧
  (∀ (e : Env) (w : World) (d : Fin 64),
    let m := w.map.get d
    let state := fun t : Target => (w.ports.get t.port).state
    let target := match m.active, m.backup with
      | .backup, some b => b
      | _, _ => m.main
    let switched := World.repoint e (w.setEntry d { m with active := .backup }) d
    let moves := fun b : Target => m.valid = true ∧ m.active = .main ∧ m.autoFailover = true ∧ state m.main = .faulted ∧
      m.backup = some b ∧ state b = .inService
    (m.valid = false → World.resolve e w d = (w, .unmapped)) ∧
    (m.valid = true → state target = .inService → World.resolve e w d = (w, .target target m.cls)) ∧
    (m.valid = true → state target = .down → World.resolve e w d = (w, .portFault)) ∧
    (∀ b, moves b → World.trySwitch e w d = switched ∧ World.resolve e w d = (switched, .target b m.cls) ∧
      switched.map = w.map.set d { m with active := .backup }) ∧
    ((∀ b, ¬moves b) → World.trySwitch e w d = w ∧
      (m.valid = true → state target = .faulted → World.resolve e w d = (w, .portFault)))) ∧
  (∀ (e : Env) (w : World) (p : Fin 8), (w.ports.get p).waitingMessages (e.cfg.ports.get p) = [] →
    let w' := World.enterFaulted e w p
    (w'.ports.get p).state = .faulted ∧
    ∀ d, let m := w.map.get d
      w'.map.get d = if m.valid = true ∧ m.active = .main ∧ m.main.port = p ∧ m.autoFailover = true ∧
          (m.backup.any (fun b => decide (b.port ≠ p ∧ (w.ports.get b.port).state = .inService))) = true then
        { m with active := .backup } else m) ∧
  (∀ (e : Env) (w : World) (d : Fin 64) (l : Fin 4) (it : Item), w.item? it.key = some it →
    let clips := it.elements.filter (fun el => el.isClipOn d && (decide (el.load = .loading) || decide (el.load = .loaded)) &&
      (decide (el.fire = .waiting) || decide (el.fire = .queued)))
    let target := match (w.map.get d).active, (w.map.get d).backup with
      | .backup, some b => b
      | _, _ => (w.map.get d).main
    World.repoint e w d = (places 4).foldl (fun w l => ((w.lane l).next.toList ++ (w.lane l).onAir.toList).foldl
      (World.repointItem e d l) w) w ∧
    World.repointItem e d l w it.key = clips.foldl (fun w el => World.sendLoadTo e w l it el d target) w)

/-- PORTCFG writes the settings it carries into one port, clamped; PORTEN brings a DOWN port IN_SERVICE and takes any other DOWN with
every message it held failed, a SENT element FAILED and a LOAD's element LOAD_FAILED with PORT_FAULT; PORTRESET clears a port's health
and recovers a FAULTED one. Which messages the response counts is read from the rule (R132, R173 to R175, log 24). -/
def Obligations.PortRequestsWriteThePortTheyName : Prop :=
  ∀ (s : State) (tag : Byte) (p : List Byte) (rest : List Request) (n : Nat) (i : Fin 8),
    let w := s.begun.world
    let r := w.ports.get i
    let c := s.dev.env.cfg.ports.get i
    place? 8 n = some i →
    (∀ q order, s.Asks 0x58#8 tag p rest → readAll readPortcfg p = some q → q.port = n →
      ((q.precedence = none ∧ order = c.precedence) ∨
        ∃ ns, q.precedence = some ns ∧ ns = order.map (·.val) ∧ order.length = 4 ∧ order.Nodup) →
      let c' : PortCfg :=
        { ackTimeout := (q.ackTimeout.map (fun x => max 1 (min 255 x))).getD c.ackTimeout
          faultThreshold := (q.faultThreshold.map (fun x => max 1 (min 15 x))).getD c.faultThreshold
          recoverCount := (q.recoverCount.map (fun x => max 1 (min 15 x))).getD c.recoverCount
          probeInterval := (q.probeInterval.map (fun x => max 1 (min 255 x))).getD c.probeInterval
          burstLimit := (q.burstLimit.map (fun x => max 1 (min 4 x))).getD c.burstLimit, precedence := order }
      let d : Dev := { s.begun with
        env := { s.dev.env with cfg := { s.dev.env.cfg with ports := s.dev.env.cfg.ports.set i c' } } }
      exec .portcfg s = .next (s.replied rest tag d .ok (d.portBytes i))) ∧
    (∀ on, s.Asks 0x59#8 tag p rest → readAll readPorten p = some (n, on) → (on = true ↔ r.state ≠ .down) →
      exec .porten s = .next (s.replied rest tag s.begun .ok (be 1 r.state.code ++ be 1 0))) ∧
    (s.Asks 0x59#8 tag p rest → readAll readPorten p = some (n, true) → r.state = .down →
      exec .porten s = .next (s.replied rest tag (Dev.settle { s.begun with world := w.setPort i { r with
        state := .inService, failures := 0, probeAcks := 0, probeStart := none } }) .ok (be 1 1 ++ be 1 0))) ∧
    (s.Asks 0x59#8 tag p rest → readAll readPorten p = some (n, false) → r.state ≠ .down →
      ∃ d : Dev, exec .porten s = .next (s.replied rest tag d.settle .ok
          (be 1 0 ++ be 1 ((r.waitingMessages c).length + r.window.length))) ∧
        d.env = s.dev.env ∧ d.world.store.records = w.store.records ∧
        (d.world.ports.get i).state = .down ∧ (∀ l, (d.world.ports.get i).fifos.get l = []) ∧
        (d.world.ports.get i).priority = [] ∧ (d.world.ports.get i).window = [] ∧ (d.world.ports.get i).received = [] ∧
        (d.world.ports.get i).failures = 0 ∧ (d.world.ports.get i).probeAcks = 0 ∧
        (d.world.ports.get i).probeStart = none ∧
        (∀ j, j ≠ i → (d.world.ports.get j).standing = (w.ports.get j).standing) ∧
        (∀ l, (d.world.lane l).standing = (w.lane l).standing) ∧ d.world.monitor = w.monitor ∧
        (w.store.Ok → (∀ it ∈ w.store.items, it.cycle = none) →
          ∀ msg ow it el, ((∃ x ∈ r.waitingMessages c, x.msg = msg ∧ x.owner = ow) ∨
              ∃ x ∈ r.window, x.msg = msg ∧ x.owner = some ow) → w.store.elem? ow.ref = some (it, el) →
            ∃ it' el', d.world.store.elem? ow.ref = some (it', el') ∧
              (msg.isLoad = false → el.fire = .sent → el.pass = ow.pass →
                el'.fire = .failed ∧ el'.failReason = some .portFault) ∧
              (msg.isLoad = true → (∃ y ∈ (w.lane ow.lane).loadList, y.ref = ow.ref ∧ y.number = ow.number) →
                el'.load = .loadFailed ∧ el'.loadFailure = some .portFault))) ∧
    (s.Asks 0x5A#8 tag p rest → readAll readByte p = some n → r.state = .down →
      exec .portreset s = .next (s.replied rest tag s.begun .wrongState [])) ∧
    (s.Asks 0x5A#8 tag p rest → readAll readByte p = some n → r.state = .inService →
      exec .portreset s = .next (s.replied rest tag (Dev.settle { s.begun with world := w.setPort i { r with
        failures := 0, probeAcks := 0 } }) .ok (be 1 1))) ∧
    (s.Asks 0x5A#8 tag p rest → readAll readByte p = some n → r.state = .faulted →
      ∃ d : Dev, exec .portreset s = .next (s.replied rest tag d.settle .ok (be 1 1)) ∧ d.env = s.dev.env ∧
        d.world.store = w.store ∧ d.world.lanes = w.lanes ∧ d.world.map = w.map ∧ d.world.monitor = w.monitor ∧
        (∀ j, j ≠ i → d.world.ports.get j = w.ports.get j) ∧ CueMsg.probe ∉ (d.world.ports.get i).priority ∧
        (d.world.ports.get i).standing = { r.standing with
          state := .inService, failures := 0, probeAcks := 0, probeStart := none })

/-- A frame that arrives on a cue link joins the receive queue; it is discarded where its check fails or the port is DOWN, and where the
queue is full, with RX_OVERRUN latched for the port; that the bytes of one arrival are checked once is the model's choice (R161, R166,
R172, R211, log 59). -/
def Obligations.CueFramesJoinTheReceiveQueue : Prop :=
  ∀ (s : State) (i : Fin 8) (kind : Byte) (fields : List Byte),
    let w := s.begun.world
    let r := w.ports.get i
    let frame := linkFrame kind fields
    (∀ bytes, checkFrame bytes = none → exec (.cueFrameReceived i bytes) s = .next s.quiet.drivePulse) ∧
    (fields.length < 40 → r.state = .down → exec (.cueFrameReceived i frame) s = .next s.quiet.drivePulse) ∧
    (fields.length < 40 → r.state ≠ .down → r.received.length < 4 →
      exec (.cueFrameReceived i frame) s = .next (State.drivePulse { s with dev := { s.begun with
        world := w.setPort i { r with received := r.received ++ [{ kind, fields }] } } })) ∧
    (fields.length < 40 → r.state ≠ .down → 4 ≤ r.received.length →
      ∃ t, exec (.cueFrameReceived i frame) s = .next t ∧ t.ctl = s.ctl ∧ t.dev.env = s.dev.env ∧
        t.dev.world.ports = w.ports ∧ t.dev.world.store = w.store ∧
        (t.dev.world.monitor.rxOverrun.get i).latched = true ∧
        (t.dev.world.monitor.rxOverrun.get i).count = min 255 ((w.monitor.rxOverrun.get i).count + 1))

/-- An ACK or a NAK at the head of a receive queue, holding the seq of an outstanding record, completes it: the record leaves the
window, behind which the arbiter may send more; a LOAD that its lane waits for becomes LOADED or LOAD_FAILED, and a SENT element of
the same pass DONE or FAILED with the NAK's reason. A record without an owner, a LOAD whose entry is gone, and an element that is
freed, of another pass or not SENT change no element and count for the port's health alone: in IN_SERVICE the failure count is 0
after it; in FAULTED an answered PROBE adds to the acks, and the one that reaches the recover count brings the port IN_SERVICE. A
head of another kind waits for its own row, which is the model's choice (R2, R99, R132, R165, R166, R168, R169, R212, log 1). -/
def Obligations.AnswersCompleteTheElementTheyName : Prop :=
  (∀ (s : State) (i : Fin 8) (m : RxMsg) (more : List RxMsg), (s.dev.world.ports.get i).received = m :: more →
    (m.kind ≠ 0x81#8 → exec (.ack i) s = .next s.quiet.drivePulse) ∧
    (m.kind ≠ 0x82#8 → exec (.nak i) s = .next s.quiet.drivePulse)) ∧
  (∀ (s : State) (i : Fin 8) (m : RxMsg) (more : List RxMsg) (seq : Byte) (rc : WinRec) (ow : Owner) (it : Item)
    (el : Element) (c : Instr) (load : Option LoadFailure) (reason : Option FailReason),
    let w := s.begun.world
    let r := w.ports.get i
    let leaves := fun w' : World => ∃ sent : List WinRec,
      (w'.ports.get i).window = r.window.filter (fun x => decide (x.seq ≠ seq)) ++ sent ∧
      ∀ x ∈ sent, x.sent = s.dev.env.ref.fc
    r.received = m :: more → r.window.find? (fun x => decide (x.seq = seq)) = some rc → rc.owner = some ow →
    w.store.elem? ow.ref = some (it, el) →
    ((c = .ack i ∧ m.kind = 0x81#8 ∧ m.fields = [seq] ∧ load = none ∧ reason = none) ∨
      ∃ b : Byte, c = .nak i ∧ m.kind = 0x82#8 ∧ m.fields = [seq, b] ∧
        load = some (if b = 1#8 then .nakNotFound else if b = 3#8 then .nakBusy else .nakRefused) ∧
        reason = some (if b = 1#8 then .nakNotFound else if b = 3#8 then .nakBusy else .nakRefused)) →
    (rc.msg.isLoad = true → (∃ x ∈ (w.lane ow.lane).loadList, x.ref = ow.ref ∧ x.number = ow.number) →
      ∃ d : Dev, exec c s = .next (State.drivePulse { s with dev := d.settle }) ∧ d.env = s.dev.env ∧
        (d.world.ports.get i).received = more ∧ leaves d.world ∧
        (r.state = .inService → (d.world.ports.get i).failures = 0) ∧
        (∀ j, j ≠ i → d.world.ports.get j = w.ports.get j) ∧
        (∀ x ∈ (d.world.lane ow.lane).loadList, x.ref ≠ ow.ref) ∧ d.world.store.records = w.store.records ∧
        (d.world.store.elem? ow.ref).map (·.2) = some { el with
          load := if load = none then .loaded else .loadFailed, loadFailure := load }) ∧
    (rc.msg.isLoad = false → el.fire = .sent → el.pass = ow.pass →
      (it.cycle = none ∨ (w.lane ow.lane).onAir ≠ some it.key) →
      ∃ d : Dev, exec c s = .next (State.drivePulse { s with dev := d.settle }) ∧ d.env = s.dev.env ∧
        (d.world.ports.get i).received = more ∧ leaves d.world ∧
        (r.state = .inService → (d.world.ports.get i).failures = 0) ∧
        (∀ j, j ≠ i → d.world.ports.get j = w.ports.get j) ∧ d.world.lanes = w.lanes ∧
        d.world.store.records = w.store.records ∧
        (d.world.store.elem? ow.ref).map (·.2) = some { el with
          fire := if reason = none then .done else .failed, failReason := reason })) ∧
  ∀ (s : State) (i : Fin 8) (m : RxMsg) (more : List RxMsg) (seq : Byte) (rc : WinRec) (c : Instr),
    let w := s.begun.world
    let r := w.ports.get i
    let cfg := s.dev.env.cfg.ports.get i
    let acks := min 15 (r.probeAcks + 1)
    r.received = m :: more → r.window.find? (fun x => decide (x.seq = seq)) = some rc →
    ((c = .ack i ∧ m.kind = 0x81#8 ∧ m.fields = [seq]) ∨ ∃ b : Byte, c = .nak i ∧ m.kind = 0x82#8 ∧ m.fields = [seq, b]) →
    (∀ ow, rc.owner = some ow →
      if rc.msg.isLoad = true then ∀ x ∈ (w.lane ow.lane).loadList, x.ref ≠ ow.ref ∨ x.number ≠ ow.number
      else ∀ it el, w.store.elem? ow.ref = some (it, el) → el.fire ≠ .sent ∨ el.pass ≠ ow.pass) →
    ∃ d : Dev, exec c s = .next (State.drivePulse { s with dev := d.settle }) ∧ d.env = s.dev.env ∧
      d.world.store = w.store ∧ d.world.lanes = w.lanes ∧ d.world.map = w.map ∧ d.world.stations = w.stations ∧
      d.world.monitor = w.monitor ∧ (∀ j, j ≠ i → d.world.ports.get j = w.ports.get j) ∧
      (d.world.ports.get i).received = more ∧
      (∃ sent : List WinRec, (d.world.ports.get i).window = r.window.filter (fun x => decide (x.seq ≠ seq)) ++ sent ∧
        ∀ x ∈ sent, x.sent = s.dev.env.ref.fc) ∧
      (d.world.ports.get i).standing = { r.standing with
        received := more
        state := if r.state = .faulted ∧ rc.msg = .probe ∧ cfg.recoverCount ≤ acks then .inService else r.state
        failures := if r.state = .inService ∨ (r.state = .faulted ∧ rc.msg = .probe ∧ cfg.recoverCount ≤ acks) then 0
          else r.failures
        probeAcks := if r.state = .faulted ∧ rc.msg = .probe then (if cfg.recoverCount ≤ acks then 0 else acks)
          else r.probeAcks
        probeStart := if r.state = .faulted ∧ rc.msg = .probe ∧ cfg.recoverCount ≤ acks then none else r.probeStart }

/-- An END at the head ends the element last rolled on its channel, where that is SENT, DONE or timed out: in a RUNNING lane whose ON_AIR
item it is the end clip of, the auto-take, now due, is evaluated at once; then the cycle range that it belongs to, if the item is on
air still, is tested. A message that is none of the three leaves the queue to no effect; a row whose kind is not the head's does
nothing, which is the model's choice (R107, R133, R136, R153, R166, R170, log 1, 11). -/
def Obligations.EndsAndDiscardsLeaveTheReceiveQueue : Prop :=
  ∀ (s : State) (i ch : Fin 8) (m : RxMsg) (more : List RxMsg),
    let w := s.begun.world
    let r := w.ports.get i
    let popped := w.setPort i { r with received := more }
    r.received = m :: more →
    (∀ ow it el, m.kind = 0x83#8 → m.fields = [BitVec.ofNat 8 ch.val] →
      w.rolls.get (Target.place ⟨i, ch⟩) = some ow → w.store.elem? ow.ref = some (it, el) →
      (el.fire = .sent ∨ el.fire = .done ∨ (el.fire = .failed ∧ el.failReason = some .timeout)) →
      (w.lane ow.lane).state ≠ .running →
      let ended := popped.modElem ow.ref (fun x => { x with fire := .ended, failReason := none })
      ((w.lane ow.lane).onAir = some it.key → it.cycleElements.any (fun x => decide (x.ref = el.ref)) = true →
        exec (.endNotice i) s = .next (State.drivePulse { s with
          dev := Dev.settle { s.begun with world := World.cycleTest s.dev.env ended ow.lane } })) ∧
      ((w.lane ow.lane).onAir ≠ some it.key ∨ it.cycleElements.any (fun x => decide (x.ref = el.ref)) = false →
      ∃ d : Dev, exec (.endNotice i) s = .next (State.drivePulse { s with dev := d.settle }) ∧ d.env = s.dev.env ∧
        d.world.ports = popped.ports ∧ d.world.lanes = w.lanes ∧ d.world.store.records = w.store.records ∧
        (d.world.store.elem? ow.ref).map (·.2) = some { el with fire := .ended, failReason := none })) ∧
    (∀ ow it el, m.kind = 0x83#8 → m.fields = [BitVec.ofNat 8 ch.val] →
      w.rolls.get (Target.place ⟨i, ch⟩) = some ow → w.store.elem? ow.ref = some (it, el) → w.store.Ok →
      (el.fire = .sent ∨ el.fire = .done ∨ (el.fire = .failed ∧ el.failReason = some .timeout)) →
      (w.lane ow.lane).state = .running →
      let e := s.dev.env
      let ended := popped.modElem ow.ref (fun x => { x with fire := .ended, failReason := none })
      let isEnd := (w.lane ow.lane).onAir = some it.key ∧ it.place = .order ∧
        ∃ j, it.endMode = .clip j ∧ (it.elements[j]?).map (·.ref) = some ow.ref.elem
      let cycled := fun w' : World => (w'.lane ow.lane).onAir = some it.key ∧
        it.cycleElements.any (fun x => decide (x.ref = el.ref)) = true
      let answers := fun w' : World => exec (.endNotice i) s = .next (State.drivePulse { s with
        dev := Dev.settle { s.begun with world := if cycled w' then World.cycleTest e w' ow.lane else w' } })
      (isEnd → answers (World.evalAuto e ended ow.lane)) ∧ (¬isEnd → answers ended)) ∧
    (m.kind = 0x83#8 → m.fields = [BitVec.ofNat 8 ch.val] → w.rolls.get (Target.place ⟨i, ch⟩) = none →
      exec (.endNotice i) s = .next (State.drivePulse { s with dev := Dev.settle { s.begun with world := popped } })) ∧
    (m.kind ≠ 0x81#8 → m.kind ≠ 0x82#8 → m.kind ≠ 0x83#8 →
      exec (.receivedMessageDiscard i) s =
        .next (State.drivePulse { s with dev := { s.begun with world := popped } })) ∧
    (∀ seq, m.kind = 0x81#8 → m.fields = [seq] → r.window.find? (fun x => decide (x.seq = seq)) = none →
      exec (.receivedMessageDiscard i) s =
        .next (State.drivePulse { s with dev := { s.begun with world := popped } })) ∧
    (m.kind ≠ 0x83#8 → exec (.endNotice i) s = .next s.quiet.drivePulse) ∧
    (m.kind ≠ 0x81#8 → exec (.ack i) s = .next s.quiet.drivePulse) ∧
    (m.kind ≠ 0x82#8 → exec (.nak i) s = .next s.quiet.drivePulse)

/-- The ack timeout of a port: every record that has reached it completes with TIMEOUT and, in IN_SERVICE, counts as a failure; the failure
that reaches the fault threshold makes the port FAULTED with its FIFOs empty; below it a SENT element that owns one is FAILED and a
LOAD's element LOAD_FAILED with TIMEOUT. In FAULTED a PROBE's timeout makes the probe acks 0 and the port stays FAULTED. Records
without an owner, or whose element is freed, of another pass or not SENT, or whose load list entry is gone, change no element. A
test with nothing due changes nothing else. That the test is a step of its own with the setting it found at the arrival, and that
answers come before the count, is the model's (R2, R99, R132, R165, R167 to R169, log 6, 15). -/
def Obligations.AckTimeoutCompletesExpiredRecords : Prop :=
  ∀ (s : State) (i : Fin 8) (timeout : Nat),
    let w := s.begun.world
    let r := w.ports.get i
    let c := s.dev.env.cfg.ports.get i
    let age := fun x : WinRec => fcDist x.sent s.dev.env.ref.fc
    let expired := r.window.filter (fun x => decide ((timeout : Int) ≤ age x))
    (r.ackTick = none → exec (.ackTimeout i) s = .next s.quiet.drivePulse) ∧
    (r.ackTick = some timeout → expired = [] →
      exec (.ackTimeout i) s = .next (State.drivePulse { s with
        dev := Dev.settle { s.begun with world := w.setPort i { r with ackTick := none } } })) ∧
    (r.ackTick = some timeout → 1 ≤ timeout → r.state = .inService → r.Ok → r.failures ≤ 15 → c.faultThreshold ≤ 15 →
      expired ≠ [] →
      ∃ d : Dev, exec (.ackTimeout i) s = .next (State.drivePulse { s with dev := d.settle }) ∧ d.env = s.dev.env ∧
        (d.world.ports.get i).ackTick = none ∧ d.world.store.records = w.store.records ∧
        (∀ x ∈ (d.world.ports.get i).window, age x < timeout) ∧
        (r.failures + expired.length < c.faultThreshold →
          (d.world.ports.get i).state = .inService ∧ (d.world.ports.get i).failures = r.failures + expired.length ∧
            (w.store.Ok → (∀ it ∈ w.store.items, it.cycle = none) → ∀ x ow it el, x ∈ expired → x.owner = some ow →
              w.store.elem? ow.ref = some (it, el) → ∃ it' el', d.world.store.elem? ow.ref = some (it', el') ∧
                (x.msg.isLoad = false → el.fire = .sent → el.pass = ow.pass →
                  el'.fire = .failed ∧ el'.failReason = some .timeout) ∧
                (x.msg.isLoad = true → (∃ y ∈ (w.lane ow.lane).loadList, y.ref = ow.ref ∧ y.number = ow.number) →
                  el'.load = .loadFailed ∧ el'.loadFailure = some .timeout))) ∧
        (c.faultThreshold ≤ r.failures + expired.length →
          (d.world.ports.get i).state = .faulted ∧ (d.world.ports.get i).failures = 0 ∧
            (d.world.ports.get i).probeStart = some s.dev.env.ref.fc ∧ ∀ l, (d.world.ports.get i).fifos.get l = [])) ∧
    (r.ackTick = some timeout → 1 ≤ timeout → r.Ok → r.failures ≤ 15 → c.faultThreshold ≤ 15 → expired ≠ [] →
      (r.state = .faulted ∨ (r.state = .inService ∧ r.failures + expired.length < c.faultThreshold)) →
      (∀ x ∈ expired, ∀ ow, x.owner = some ow →
        if x.msg.isLoad = true then ∀ y ∈ (w.lane ow.lane).loadList, y.ref ≠ ow.ref ∨ y.number ≠ ow.number
        else ∀ it el, w.store.elem? ow.ref = some (it, el) → el.fire ≠ .sent ∨ el.pass ≠ ow.pass) →
      ∃ d : Dev, exec (.ackTimeout i) s = .next (State.drivePulse { s with dev := d.settle }) ∧ d.env = s.dev.env ∧
        d.world.store = w.store ∧ d.world.lanes = w.lanes ∧ d.world.map = w.map ∧ d.world.stations = w.stations ∧
        d.world.monitor = w.monitor ∧ (∀ j, j ≠ i → d.world.ports.get j = w.ports.get j) ∧
        (∃ sent : List WinRec, (d.world.ports.get i).window = r.window.filter (fun x => decide (age x < timeout)) ++ sent ∧
          ∀ x ∈ sent, x.sent = s.dev.env.ref.fc) ∧
        (d.world.ports.get i).standing = { r.standing with
          ackTick := none
          failures := if r.state = .inService then r.failures + expired.length else r.failures
          probeAcks := if r.state = .faulted ∧ (∃ x ∈ expired, x.msg = .probe) then 0 else r.probeAcks })

/-- The probe interval of a FAULTED port: when it has passed, a PROBE is sent with the next seq, or the first after it that no
outstanding record holds, and the interval starts again; that the test is a step of its own with the setting it found at the arrival
is the model's choice (R164, R165, R169, log 6). -/
def Obligations.ProbeTimerSendsAProbe : Prop :=
  ∀ (s : State) (i : Fin 8) (interval : Nat) (start : Fc),
    let w := s.begun.world
    let r := w.ports.get i
    (r.probeTick = none → exec (.probeTimer i) s = .next s.quiet.drivePulse) ∧
    (r.probeTick = some interval → r.state = .faulted → r.probeStart = some start →
      fcDist start s.dev.env.ref.fc < interval →
      exec (.probeTimer i) s = .next (State.drivePulse { s with
        dev := { s.begun with world := w.setPort i { r with probeTick := none } } })) ∧
    (r.probeTick = some interval → r.state = .faulted → r.probeStart = some start → r.priority = [] →
      r.window.length < 4 → (interval : Int) ≤ fcDist start s.dev.env.ref.fc →
      ∃ t seq, exec (.probeTimer i) s = .next t ∧ (∀ x ∈ r.window, x.seq ≠ seq) ∧
        (∃ n : Nat, n < 4 ∧ seq = r.nextSeq + BitVec.ofNat 8 n ∧
          ∀ j : Nat, j < n → ∃ x ∈ r.window, x.seq = r.nextSeq + BitVec.ofNat 8 j) ∧ t.dev.env = s.dev.env ∧
        t.dev.world.ports = w.ports.set i { r with
          probeTick := none, probeStart := some s.dev.env.ref.fc, nextSeq := seq + 1
          window := r.window ++ [{ seq := seq, msg := .probe, owner := none, sent := s.dev.env.ref.fc }] } ∧
        t.dev.world.out.cue = [(i, linkFrame 0x07#8 [seq])] ∧ t.dev.world.store = w.store)

/-! ### Stations -/

/-- STATION assigns a station to a lane or to none, emptying its slots and waiting list, and tells a PRESENT station of the slots that
held a cue; read, or assigned as it is, it leaves everything. That the response leaves heard since boundary out is the model's choice
(R180, log 47). -/
def Obligations.StationAssignsAndEmptiesItsSlots : Prop :=
  ∀ (s : State) (tag : Byte) (p : List Byte) (rest : List Request) (n : Nat) (x : Machine.Field Nat) (st : Fin 6)
    (lane : Option (Fin 4)),
    let w := s.begun.world
    let r := w.stations.get st
    s.Asks 0x60#8 tag p rest → readAll readStation p = some (n, x) → place? 6 n = some st →
    ((x = .absent ∧ lane = r.lane) ∨ (x = .word ∧ lane = none) ∨ ∃ k, x = .given k ∧ place? 4 k = lane ∧ lane ≠ none) →
    (lane = r.lane → exec .station s = .next (s.replied rest tag s.begun .ok (s.begun.stationBytes st))) ∧
    (lane ≠ r.lane →
      ∃ d : Dev, exec .station s = .next (s.replied rest tag d.settle .ok (d.settle.stationBytes st)) ∧
        d.env = s.dev.env ∧ d.world = { w with
          stations := w.stations.set st { r with lane := lane, standby := none, waiting := [], go := none }
          out := { w.out with station :=
            (if r.present = true ∧ r.standby ≠ none then [(st, linkFrame 0x13#8 [])] else []) ++
            (if r.present = true ∧ r.go ≠ none then [(st, linkFrame 0x15#8 [])] else []) } })

/-- CALL moves call to station and ANSWER clears call from station; a PRESENT station is told, and a flag that stands already is left;
the response carries both flags, and a station above 5 is refused with BAD_ARG (R188, R189). -/
def Obligations.CallAndAnswerMoveTheCallFlags : Prop :=
  (∀ (s : State) (tag : Byte) (p : List Byte) (rest : List Request) (n : Nat), 5 < n →
    (∀ on, s.Asks 0x61#8 tag p rest → readAll readPorten p = some (n, on) →
      exec .call s = .next (s.replied rest tag s.begun .badArg [])) ∧
    (s.Asks 0x62#8 tag p rest → readAll readByte p = some n →
      exec .answer s = .next (s.replied rest tag s.begun .badArg []))) ∧
  ∀ (s : State) (tag : Byte) (p : List Byte) (rest : List Request) (n : Nat) (st : Fin 6),
    let w := s.begun.world
    let r := w.stations.get st
    let told := fun (r' : Station) (kind : Byte) => { s.begun with world := { w with
      stations := w.stations.set st r'
      out := { w.out with station := if r.present then [(st, linkFrame kind [])] else [] } } }
    place? 6 n = some st →
    (∀ on, s.Asks 0x61#8 tag p rest → readAll readPorten p = some (n, on) → r.callTo = on →
      exec .call s = .next (s.replied rest tag s.begun .ok (flag r.callFrom ++ flag on))) ∧
    (∀ on, s.Asks 0x61#8 tag p rest → readAll readPorten p = some (n, on) → r.callTo ≠ on →
      exec .call s = .next (s.replied rest tag
        (told { r with callTo := on } (if on then 0x16#8 else 0x17#8)) .ok (flag r.callFrom ++ flag on))) ∧
    (s.Asks 0x62#8 tag p rest → readAll readByte p = some n → r.callFrom = false →
      exec .answer s = .next (s.replied rest tag s.begun .ok (flag false ++ flag r.callTo))) ∧
    (s.Asks 0x62#8 tag p rest → readAll readByte p = some n → r.callFrom = true →
      exec .answer s = .next (s.replied rest tag
        (told { r with callFrom := false } 0x18#8) .ok (flag false ++ flag r.callTo)))

/-- A checked frame from a station makes it PRESENT with no missed seconds and, where it was ABSENT, brings it into step; a frame that
fails its check is not heard. A second boundary finds a PRESENT station heard or counts a missed second, and leaves an ABSENT one; it
sends COUNT, with the countdown of the current distance, for the cue in a standby slot. A third missed boundary makes a station that
is still unheard ABSENT and empties it; that it is taken by a row of its own, that COUNT is sent also at the third missed boundary, before
the look at presence, and that the bytes of one arrival are checked once are the model's choices (R178, R179, R183, log 6, 7, 59). -/
def Obligations.PresenceFollowsWhatIsHeard : Prop :=
  (∀ (e : Env) (w : World) (st : Fin 6),
    let r := w.stations.get st
    let w' := Task.work e w .boundary
    let r' := w'.stations.get st
    let sent := (w'.out.station.drop w.out.station.length).filter (fun x => decide (x.1 = st))
    let shown := r.standby.map (fun c => { c with
      countdown := e.ref.rate.countdown (max 0 (c.req.distance - fcDist c.req.handed e.ref.fc)) })
    Task.boundary ∈ arrivalTasks true ∧ Task.boundary ∉ arrivalTasks false ∧
    (r.present = false → r' = { r with standby := shown }) ∧
    (r.present = true → r.heard = true → r' = { r with standby := shown, heard := false }) ∧
    (r.present = true → r.heard = false → r.missed < 2 → r' = { r with standby := shown, missed := r.missed + 1 }) ∧
    (r.present = true → r.heard = false → 2 ≤ r.missed → r' = { r with standby := shown, thirdMiss := true }) ∧
    sent = (match shown with
      | some c => [(st, linkFrame 0x12#8 (be 3 c.countdown))]
      | none => []) ∧
    w'.store = w.store ∧ w'.lanes = w.lanes ∧ w'.ports = w.ports ∧ w'.map = w.map ∧ w'.monitor = w.monitor) ∧
  ∀ (s : State) (st : Fin 6),
    let w := s.begun.world
    let r := w.stations.get st
    let ends := fun w' : World => Host.Outcome.next (φ := Fault) (ρ := Refusal)
      (State.drivePulse { s with dev := Dev.settle { s.begun with world := w' } })
    let heard : World := { w with
      stations := w.stations.set st { r with heard := true, missed := 0, present := true }
      out := { w.out with station := if r.present then [] else
        [(st, linkFrame 0x13#8 []), (st, linkFrame 0x15#8 []),
          (st, linkFrame (if r.callTo then 0x16#8 else 0x17#8) [])] } }
    exec (.alive st) s = ends heard ∧
    (∀ bytes, (checkFrame bytes).isSome → exec (.stationFrameDiscard st bytes) s = ends heard) ∧
    (∀ bytes, checkFrame bytes = none → exec (.stationFrameDiscard st bytes) s = .next s.quiet.drivePulse) ∧
    (r.thirdMiss = false → exec (.stationAbsent st) s = .next s.quiet.drivePulse) ∧
    (r.thirdMiss = true → r.present = true → r.heard = false →
      exec (.stationAbsent st) s = ends (w.setStation st { r with
        thirdMiss := false, present := false, missed := 3, standby := none, waiting := [], go := none })) ∧
    (r.thirdMiss = true → r.present = true → r.heard = true →
      exec (.stationAbsent st) s = ends (w.setStation st { r with thirdMiss := false, heard := false })) ∧
    (r.thirdMiss = true → r.present = false →
      exec (.stationAbsent st) s = ends (w.setStation st { r with thirdMiss := false }))

/-- READY answers the standby shown, or clears call to station where that is set; HOLD answers it and latches STATION_HOLD; CALL sets
call from station and latches STATION_CALL; each is heard first. A READY that satisfies the gate of a lane in WAITING tests the
auto-take condition, and evaluates the auto-take where that holds; where it does not, the READY is recorded, which is read from
the rule. A standby asked of its lane's PRESENT station is shown in an empty slot, waits behind a full one, or is a new distance; a
hand sends COUNT where the countdown grows or falls by 2 or more; an emptied slot fills with the waiting request of the smallest
current distance, the earlier of equals; a clear empties the slot or withdraws the request. That an AMEND made since the last frame
arrival counts at the READY is the model's choice (R107, R112, R178, R181 to R184, R186, R187, log 42, 60). -/
def Obligations.ButtonsAnswerTheStandby : Prop :=
  (∀ (s : State) (st : Fin 6),
    let w := s.begun.world
    let r := w.stations.get st
    let now : Station := { r with heard := true, missed := 0, present := true }
    let latch := fun i : Inst => { i with latched := true, count := min 255 (i.count + 1) }
    let shape := fun (c : Instr) (r' : Station) (m : Monitor → Monitor) =>
      ∃ d : Dev, exec c s = .next (State.drivePulse { s with dev := d.settle }) ∧ d.env = s.dev.env ∧
        d.world.stations = w.stations.set st r' ∧ d.world.monitor = m w.monitor ∧ d.world.store = w.store ∧
        d.world.lanes = w.lanes ∧ d.world.ports = w.ports ∧ d.world.map = w.map
    (r.callTo = true → shape (.ready st) { now with callTo := false } id) ∧
    (r.callTo = false → r.standby = none → shape (.ready st) now id) ∧
    (∀ c, r.callTo = false → r.standby = some c → (w.lane c.req.lane).state ≠ .waiting →
      shape (.ready st) { now with standby := some { c with response := .ready } } id) ∧
    (∀ (c : StandbyCue) (it : Item) (el : Element), r.callTo = false → r.present = true → r.standby = some c →
      (w.lane c.req.lane).state = .waiting → w.nextItem? c.req.lane = some it → it.ref = c.req.ref.item →
      (w.store.elem? c.req.ref).map (·.2) = some el → el.content.isGating = true →
      let recorded := w.setStation st { now with standby := some { c with response := .ready } }
      let tested := if World.autoDue s.dev.env w c.req.lane = true then World.evalAuto s.dev.env recorded c.req.lane
        else recorded
      exec (.ready st) s = .next (State.drivePulse { s with dev := Dev.settle { s.begun with world := tested } })) ∧
    shape (.stationHold st) { now with standby := r.standby.map (fun c => { c with response := .hold }) } (fun m =>
      { m with stationHold := m.stationHold.modify st latch }) ∧
    shape (.stationCall st) { now with callFrom := true } (fun m =>
      { m with stationCall := m.stationCall.modify st latch })) ∧
  (∀ (e : Env) (w : World) (l : Fin 4) (st : Fin 6) (key : Nat) (ref : ElemRef) (label : List Byte) (d : Int),
    let r := w.stations.get st
    let a := World.askStandby e w l st key ref label d
    let req : StandbyReq := { lane := l, key := key, ref := ref, label := label, distance := d, handed := e.ref.fc }
    let held := (∃ c, r.standby = some c ∧ c.req.ref = ref) ∨ ∃ x ∈ r.waiting, x.ref = ref
    let going := ∃ g, r.go = some g ∧ g.ref = ref
    let tells := fun (r' : Station) (frames : List (List Byte)) => { w with
      stations := w.stations.set st r'
      out := { w.out with station := w.out.station ++ frames.map (fun f => (st, f)) } }
    let clearGo := if going then [linkFrame 0x15#8 []] else []
    let go := if going then none else r.go
    (r.lane ≠ some l → a = (w, .wrongLane)) ∧
    (r.lane = some l → r.present = false → a = (w, .dropped)) ∧
    (r.lane = some l → r.present = true → held → a = (World.handDistance e w st ref d, .taken)) ∧
    (r.lane = some l → r.present = true → ¬held → r.standby = none →
      let shown : StandbyCue := { req := req, countdown := e.ref.rate.countdown d, response := .none }
      a = (tells { r with go := go, standby := some shown } (clearGo ++
        [linkFrame 0x11#8 (be 1 label.length ++ label ++ be 3 (e.ref.rate.countdown d))]), .taken)) ∧
    (r.lane = some l → r.present = true → ¬held → r.standby ≠ none →
      a = (tells { r with go := go, waiting := r.waiting ++ [req] } clearGo, .waits))) ∧
  (∀ (e : Env) (w : World) (st : Fin 6) (ref : ElemRef) (d : Int),
    let r := w.stations.get st
    let w' := World.handDistance e w st ref d
    let cd := e.ref.rate.countdown d
    (∀ c, r.standby = some c → c.req.ref = ref →
      let req := { c.req with distance := d, handed := e.ref.fc }
      (c.countdown < cd ∨ cd + 2 ≤ c.countdown → w' = { w with
        stations := w.stations.set st { r with standby := some { c with req := req, countdown := cd } }
        out := { w.out with station := w.out.station ++ [(st, linkFrame 0x12#8 (be 3 cd))] } }) ∧
      (cd ≤ c.countdown → c.countdown < cd + 2 →
        w' = w.setStation st { r with standby := some { c with req := req } })) ∧
    ((∀ c, r.standby = some c → c.req.ref ≠ ref) → w' = w.setStation st { r with
      waiting := r.waiting.map (fun x => if x.ref = ref then { x with distance := d, handed := e.ref.fc } else x) })) ∧
  (∀ (e : Env) (w : World) (st : Fin 6),
    let r := w.stations.get st
    let w' := World.fillStandby e w st
    let current := fun x : StandbyReq => max 0 (x.distance - fcDist x.handed e.ref.fc)
    (r.standby ≠ none ∨ r.waiting = [] → w' = w) ∧
    (r.standby = none → r.waiting ≠ [] → (r.waiting.map (·.ref)).Nodup →
      ∃ ahead x behind, r.waiting = ahead ++ x :: behind ∧ (∀ y ∈ ahead, current x < current y) ∧
        (∀ y ∈ behind, current x ≤ current y) ∧
        let cd := e.ref.rate.countdown (current x)
        w' = { w with
          stations := w.stations.set st { r with
            waiting := ahead ++ behind, standby := some { req := x, countdown := cd, response := .none } }
          out := { w.out with station := w.out.station ++
            [(st, linkFrame 0x11#8 (be 1 x.label.length ++ x.label ++ be 3 cd))] } })) ∧
  (∀ (e : Env) (w : World) (st : Fin 6) (ref : ElemRef) (go : Bool),
    let r := w.stations.get st
    let left := r.waiting.filter (fun x => decide (x.ref ≠ ref))
    let w' := World.clearCue e w st ref go
    r.present = true →
    (∀ c, r.standby = some c → c.req.ref = ref → (∀ g, r.go = some g → g.ref ≠ ref) →
      w' = World.fillStandby e { w with
        stations := w.stations.set st { r with standby := none, waiting := left }
        out := { w.out with station := w.out.station ++ [(st, linkFrame 0x13#8 [])] } } st) ∧
    ((∀ c, r.standby = some c → c.req.ref ≠ ref) → (go = false ∨ ∀ g, r.go = some g → g.ref ≠ ref) →
      w' = w.setStation st { r with waiting := left }) ∧
    (∀ g, (∀ c, r.standby = some c → c.req.ref ≠ ref) → go = true → r.lane ≠ none → r.go = some g → g.ref = ref →
      w' = { w with
        stations := w.stations.set st { r with waiting := left, go := none }
        out := { w.out with station := w.out.station ++ [(st, linkFrame 0x15#8 [])] } }))

/-! ### Conditions and attention -/

/-- THRESH, ACTIONS and ATTNCFG write the settings they carry, clamped, and no others; a change of ATTN mode leaves no pulse; THRESH and
ATTNCFG answer with what is stored (R193, R200, R207). -/
def Obligations.ConditionSettingsAreWritten : Prop :=
  (∀ (s : State) (tag : Byte) (p : List Byte) (rest : List Request) (q : ThreshReq) (l : Fin 4),
    let t := s.dev.env.cfg.thresh.get l
    let t' : Thresh :=
      { overT := q.overT.getD t.overT, underT := q.underT.getD t.underT
        count := (q.count.map (fun x => max 1 (min 15 x))).getD t.count
        hysteresis := (q.hysteresis.map (min 1023)).getD t.hysteresis }
    s.Asks 0x68#8 tag p rest → readAll readThresh p = some q → place? 4 q.lane = some l →
    exec .thresh s = .next (s.replied rest tag { s.begun with
        env := { s.dev.env with cfg := { s.dev.env.cfg with thresh := s.dev.env.cfg.thresh.set l t' } } } .ok
      (be 2 t'.overT ++ be 2 t'.underT ++ be 1 t'.count ++ be 2 t'.hysteresis ++
        be 1 (s.dev.world.monitor.overCount.get l) ++ be 1 (s.dev.world.monitor.underCount.get l)))) ∧
  (∀ (s : State) (tag : Byte) (p : List Byte) (rest : List Request) (n : Nat) (xs : List (Nat × Nat)) (l : Fin 4),
    s.Asks 0x69#8 tag p rest → readAll readActions p = some (n, xs) → place? 4 n = some l →
    ((∃ x ∈ xs, 7 ≤ x.1 ∨ 3 < x.2) → exec .actions s = .next (s.replied rest tag s.begun .badArg [])) ∧
    ((∀ x ∈ xs, x.1 < 7 ∧ x.2 ≤ 3) → (xs.map (·.1)).Nodup →
      ∃ d : Dev, exec .actions s = .next (s.replied rest tag d.settle .ok (d.settle.actionBytes l)) ∧
        d.world = s.begun.world ∧ d.env.ref = s.dev.env.ref ∧
        d.env.cfg = { s.dev.env.cfg with levels := d.env.cfg.levels } ∧
        (∀ l', l' ≠ l → d.env.cfg.levels.get l' = s.dev.env.cfg.levels.get l') ∧
        (∀ i : Fin 7, ∀ level, (i.val, level) ∈ xs → (d.env.cfg.levels.get l).get i = level) ∧
        (∀ i : Fin 7, i.val ∉ xs.map (·.1) →
          (d.env.cfg.levels.get l).get i = (s.dev.env.cfg.levels.get l).get i))) ∧
  (∀ (s : State) (tag : Byte) (p : List Byte) (rest : List Request) (mask modeByte : Option Nat) (mode : AttnMode),
    let c := s.dev.env.cfg
    let bits := (mask.map (BitVec.ofNat 12)).getD c.attnMask
    s.Asks 0x70#8 tag p rest → readAll readAttncfg p = some (mask, modeByte) →
    (modeByte.elim (some c.attnMode) attnMode? = some mode) →
    exec .attncfg s = .next (s.replied rest tag
      { env := { s.dev.env with cfg := { c with attnMask := bits, attnMode := mode } }
        world := { s.begun.world with
          pulse := if c.attnMode = mode then s.dev.world.pulse else { phase := .idle, pending := 0 } } } .ok
      (be 2 bits.toNat ++ be 1 mode.code ++ be 2 s.dev.world.monitor.causes.toNat)))

/-- CONDREAD returns the 50 instances, each lane's action level and the conditions that make it up, as they stood, and clears the
latched flag and the count of every instance that is not active, and with them the attention causes; the layout of the response is
the model's choice (R197, log 4). -/
def Obligations.CondreadClearsWhatHasEnded : Prop :=
  ∀ (s : State) (tag : Byte) (rest : List Request), s.Asks 0x6A#8 tag [] rest →
    let m := s.dev.world.monitor
    let clear := fun i : Inst => if i.active then i else { i with latched := false, count := 0 }
    let state := fun i : Inst => flag i.active ++ flag i.latched ++ be 1 i.count
    let event := fun i : Inst => flag i.latched ++ be 1 i.count
    let level := fun l : Fin 4 => (s.dev.world.lane l).actionLevel
    let makes := fun (l : Fin 4) (i : Fin 7) =>
      decide (level l ≠ 0) && (m.actives l)[i.val]?.getD false && decide ((s.dev.env.cfg.levels.get l).get i = level l)
    ∃ m', exec .condread s = .next (s.replied rest tag
        { s.begun with world := { s.begun.world with monitor := m' } } .ok
        (m.overI.cells.flatMap state ++ m.underI.cells.flatMap state ++ m.noNext.cells.flatMap state ++
          m.notReady.cells.flatMap state ++ m.portFault.cells.flatMap state ++ m.stationLost.cells.flatMap state ++
          state m.refLost ++ m.gateTimeout.cells.flatMap event ++ event m.clockSlip ++ m.rxOverrun.cells.flatMap event ++
          m.stationCall.cells.flatMap event ++ m.stationHold.cells.flatMap event ++
          (places 4).flatMap (fun l => be 1 (level l)) ++
          (places 4).flatMap (fun l => listBytes (fun i : Fin 7 => be 1 i.val) ((places 7).filter (makes l))))) ∧
      m' = { overI := m.overI.map clear, underI := m.underI.map clear, noNext := m.noNext.map clear
             notReady := m.notReady.map clear, portFault := m.portFault.map clear, stationLost := m.stationLost.map clear
             refLost := clear m.refLost, gateTimeout := m.gateTimeout.map clear, clockSlip := clear m.clockSlip
             rxOverrun := m.rxOverrun.map clear, stationCall := m.stationCall.map clear
             stationHold := m.stationHold.map clear, overCount := m.overCount, underCount := m.underCount } ∧
      (∀ c, m'.cause c = true → m.cause c = true)

/-- OVER and UNDER by their test value: inactive, they become active and latch at the Nth evaluation in a row above T, and active they
stay so until the value falls below T − H; without a value they end. A second boundary evaluates each lane that is not IDLE on the
over used, negated for UNDER, and an active OVER carries the plan out, before a level changes. NO_NEXT, NOT_READY, PORT_FAULT,
STATION_LOST and, at every event, REF_LOST are judged by what their rules name. A lane's level is the largest configured for its
active conditions; a level made known is recorded, at 2 and 3 sets ACTION, on entry to 3 sets OPERATOR and sends SAFE down the safe
list, and at 1 in WAITING makes the FILLING take where the divert path applies and the guard passes. That carry-out comes before the
level, and that a FILLING take refused so is not tried again, are the model's choice (R91, R112, R122, R154, R192, R194, R195, R198,
R199, log 44, 49). -/
def Obligations.OverAndUnderCountAndClear : Prop :=
  (∀ (t n h : Nat) (i : Inst) (count : Nat),
    evalInstance t n h none i count = ({ i with active := false }, 0) ∧
    (∀ v : Int, i.active = true → v < (t : Int) - h → evalInstance t n h (some v) i count = ({ i with active := false }, 0)) ∧
    (∀ v : Int, i.active = true → (t : Int) - h ≤ v → evalInstance t n h (some v) i count = (i, count)) ∧
    (∀ v : Int, i.active = false → v ≤ t → evalInstance t n h (some v) i count = (i, 0)) ∧
    (∀ v : Int, i.active = false → (t : Int) < v → count + 1 < n → evalInstance t n h (some v) i count = (i, count + 1)) ∧
    (∀ v : Int, i.active = false → (t : Int) < v → n ≤ count + 1 → evalInstance t n h (some v) i count =
      ({ active := true, latched := true, count := min 255 (i.count + 1) }, 0)) ∧
    (∀ (e : Env) (w : World) (l : Fin 4), (w.lane l).state = .idle → World.evalLane e w l = w)) ∧
  (∀ (e : Env) (w : World) (l : Fin 4), (w.lane l).state ≠ .idle →
    let c := e.cfg.thresh.get l
    let m := w.monitor
    let used : Option Int := match (e.cfg.lanes.get l).substitute, (w.timing.get l).overA with
      | some x, _ => some x
      | none, some o => some (max (-8388607) (min 8388607 o))
      | none, none => none
    let o := evalInstance c.overT c.count c.hysteresis used (m.overI.get l) (m.overCount.get l)
    let u := evalInstance c.underT c.count c.hysteresis (used.map (fun v => -v)) (m.underI.get l) (m.underCount.get l)
    Task.work e w (.evaluate l) = World.evalLane e w l ∧ Task.evaluate l ∈ arrivalTasks true ∧
    Task.evaluate l ∉ arrivalTasks false ∧
    ∃ w1 : World, w1.monitor = { m with
        overI := m.overI.set l o.1, overCount := m.overCount.set l o.2
        underI := m.underI.set l u.1, underCount := m.underCount.set l u.2 } ∧
      w1.store = w.store ∧ w1.lanes = w.lanes ∧ w1.ports = w.ports ∧
      World.evalLane e w l = if o.1.active = true then World.carryOut e w1 l else w1) ∧
  (∀ (e : Env) (w : World) (l : Fin 4),
    let w' := World.judgeLane e w l
    let judged := fun (now : Prop) (i i' : Inst) => (i'.active = true ↔ now) ∧
      (now → i.active = false → i'.latched = true ∧ i'.count = min 255 (i.count + 1)) ∧
      (¬now ∨ i.active = true → i'.latched = i.latched ∧ i'.count = i.count)
    let front := (w.timing.get l).front
    let clipWaits := fun (f : Int) (el : Element) => ∃ d clip, el.content = .clip d clip ∧ el.fire = .waiting ∧
      (el.load = .conflict ∨ el.load = .loadFailed ∨
        ((el.load = .unloaded ∨ el.load = .loading) ∧ f + el.offset < ((w.map.get d).preroll : Int)))
    let faulty := fun el : Element =>
      (el.fire = .waiting ∨ el.fire = .queued ∨ (el.fire = .failed ∧ el.failReason = some .portFault)) ∧
      ∃ d, el.content.device? = some d ∧ (w.map.get d).valid = true ∧
        (w.ports.get (w.map.get d).target.port).state ≠ .inService
    ((w.due.get l).result = true → judged (∃ it, w.onAirItem? l = some it ∧ it.place = .order ∧ it.endMode ≠ .manual ∧
        (w.lane l).next = none ∧ (w.timing.get l).remOn ≤ (e.cfg.lanes.get l).noNextWarn)
      (w.monitor.noNext.get l) (w'.monitor.noNext.get l)) ∧
    ((w.due.get l).result = true ∨ (w.due.get l).elements = true →
      judged (∃ it, w.nextItem? l = some it ∧ ∃ el ∈ it.elements, clipWaits (front it.key) el)
        (w.monitor.notReady.get l) (w'.monitor.notReady.get l)) ∧
    judged (∃ k it, ((w.lane l).next = some k ∨ (w.lane l).onAir = some k) ∧ w.item? k = some it ∧
        ∃ el ∈ it.elements, faulty el) (w.monitor.portFault.get l) (w'.monitor.portFault.get l) ∧
    judged (∃ st, (w.stations.get st).lane = some l ∧ (w.stations.get st).present = false)
      (w.monitor.stationLost.get l) (w'.monitor.stationLost.get l) ∧
    w'.store = w.store ∧ w'.lanes = w.lanes ∧ w'.ports = w.ports ∧ w'.map = w.map) ∧
  (∀ (e : Env) (w : World) (l : Fin 4),
    let n := World.levels e w l
    let level := e.cfg.levels.get l
    let active : List Bool := [(w.monitor.overI.get l).active, (w.monitor.underI.get l).active,
      (w.monitor.noNext.get l).active, (w.monitor.notReady.get l).active, (w.monitor.portFault.get l).active,
      (w.monitor.stationLost.get l).active, w.monitor.refLost.active]
    (∀ i : Fin 7, active[i.val]? = some true → level.get i ≤ n) ∧
    (n = 0 ∨ ∃ i : Fin 7, active[i.val]? = some true ∧ level.get i = n)) ∧
  (∀ (e : Env) (w : World) (l : Fin 4) (formed : Fin 4 → Nat),
    let r := w.lane l
    let n := formed l
    let w' := World.applyLevel e formed w l
    let held := w.setLane l { r with
      actionLevel := n, action := true, operator := r.operator || decide (n = 3), gate := false, gateDue := none
      state := match w.onAirItem? l with
        | none => .standby
        | some it => if it.place = .standby then .filling else .held }
    let freed := w.setLane l { r with
      actionLevel := n, action := false
      state := match w.onAirItem? l with
        | none => .standby
        | some it => if it.place = .standby then .filling else if r.operator then .held else if r.gate then .waiting
            else .running }
    (n = r.actionLevel → w' = w) ∧
    (n ≠ r.actionLevel → r.state = .idle → w' = w.setLane l { r with actionLevel := n }) ∧
    (n ≠ r.actionLevel → r.state ≠ .idle → n = 2 → w' = held) ∧
    (n ≠ r.actionLevel → r.state ≠ .idle → n = 3 → w' = World.sendSafe e held l) ∧
    (n ≠ r.actionLevel → r.state ≠ .idle → n < 2 → (r.state ≠ .waiting ∨ n = 0) → w' = freed) ∧
    (n ≠ r.actionLevel → r.state = .waiting → n = 1 →
      let diverts := (r.next = none ∨ (w.monitor.notReady.get l).active = true) ∧ w.store.standbys.get l ≠ none
      let guard := ∀ t, r.lastTake = some t → ((e.cfg.lanes.get l).takeGuard : Int) ≤ fcDist t e.ref.fc
      (diverts → guard → w' = World.fillingTake e freed l ∧ World.evalAuto e freed l = World.fillingTake e freed l) ∧
      (¬(diverts ∧ guard) → w' = freed))) ∧
  (∀ (e : Env) (w : World),
    let i := w.monitor.refLost
    let i' := (World.settle e w).monitor.refLost
    let lost := e.ref.enabled = true ∧ e.ref.state ≠ .locked
    (i'.active = true ↔ lost) ∧ (lost → i.active = false → i'.latched = true ∧ i'.count = min 255 (i.count + 1)) ∧
    (¬lost ∨ i.active = true → i'.latched = i.latched ∧ i'.count = i.count)) ∧
  (∀ (e : Env) (w : World) (l : Fin 4),
    let one := fun (w : World) (d : Fin 64) => match World.resolve e w d with
      | (w1, .target t _) =>
        let r := w1.ports.get t.port
        if r.state = .inService ∧ r.priority.length < 8 then
          World.arbiter e (w1.setPort t.port { r with priority := r.priority ++ [.safe t.channel] }) t.port
        else w1
      | (w1, _) => w1
    World.sendSafe e w l = (e.cfg.lanes.get l).safeList.foldl one w)

/-! ### What the rules compute -/

/-- The countdown seconds of a distance are the smallest whole number of seconds not less than its frames at the rate's real seconds
per frame, by the rule's four quotients, and 0 for a negative distance (R70). -/
def Obligations.CountdownIsTheLeastSufficientSecond : Prop :=
  (∀ f : Nat, Rate.r25.countdown f = (f + 24) / 25 ∧ Rate.r50.countdown f = (f + 49) / 50 ∧
    Rate.r2997.countdown f = (f * 1001 + 29999) / 30000 ∧ Rate.r5994.countdown f = (f * 1001 + 59999) / 60000) ∧
  (∀ (rate : Rate) (f : Nat), f * rate.period ≤ rate.countdown f * 120000 ∧
    ∀ c : Nat, f * rate.period ≤ c * 120000 → rate.countdown f ≤ c) ∧
  (∀ (rate : Rate) (f : Int), f < 0 → rate.countdown f = 0)

/-- Labels and frame counts of a day name each other: the label of a count is never a dropped one and reads back as the count, and a
label that is read, a dropped one as the next that exists, is the label of its count (R62, R63). -/
def Obligations.LabelsAndFrameCountsNameEachOther : Prop :=
  ∀ rate : Rate,
    (∀ n : Nat, n < rate.day → rate.reads (rate.label n) = true ∧ rate.isDropped (rate.label n) = false ∧
      rate.read (rate.label n) = some n) ∧
    (∀ x : Label, rate.reads x = true → ∃ n, rate.read x = some n ∧ n < rate.day ∧ rate.label n = rate.clampLabel x)

/-- Numbers written most significant byte first read back, unsigned to their width and signed distances clamped to the reported range
(R82, R209, R210). -/
def Obligations.NumbersReadBackAsWritten : Prop :=
  (∀ (n v : Nat) (rest : List Byte), v < 256 ^ n → readNat n (be n v ++ rest) = some (v, rest)) ∧
  (∀ (d : Int) (rest : List Byte), readSigned (signed d ++ rest) = some (max (-8388607) (min 8388607 d), rest)) ∧
  (∀ (x : Label) (rest : List Byte), x.fitsBytes = true → readLabel (labelBytes x ++ rest) = some (x, rest))

/-- A link frame begins C3, counts the bytes from its kind to its last field, ends with its CRC, and is read back by the check, which
looks for its start byte past any others; a frame whose length or CRC does not fit, or with bytes left over, is discarded; that a length
byte above 40 does not fit, and that the check is made once, from the first start byte, are the model's choices (R172, R211, log 4,
59). -/
def Obligations.LinkFramesPassTheirCheck : Prop :=
  (∀ (kind : Byte) (fields : List Byte), fields.length < 40 →
    linkFrame kind fields = [0xC3#8, BitVec.ofNat 8 (fields.length + 1), kind] ++ fields ++
      [(crc16 ([0xC3#8, BitVec.ofNat 8 (fields.length + 1), kind] ++ fields)).extractLsb' 8 8,
        (crc16 ([0xC3#8, BitVec.ofNat 8 (fields.length + 1), kind] ++ fields)).extractLsb' 0 8] ∧
    ∀ before : List Byte, 0xC3#8 ∉ before → checkFrame (before ++ linkFrame kind fields) = some (kind, fields)) ∧
  (∀ (bytes : List Byte) (kind : Byte) (fields : List Byte), checkFrame bytes = some (kind, fields) →
    fields.length < 40 ∧ ∃ before, 0xC3#8 ∉ before ∧ bytes = before ++ linkFrame kind fields) ∧
  crc16 [0x31#8, 0x32#8, 0x33#8, 0x34#8, 0x35#8, 0x36#8, 0x37#8, 0x38#8, 0x39#8] = 0x29B1#16

/-- The timing result of a lane: rem_on, raw over, the absorber's effective duration, which takes up the raw over within its range, and
the over that this leaves; the front distances with their labels, and with a hard out the back distances, each the front distance
less the over; without one, what a hard out gives is absent (R77 to R81). -/
def Obligations.TimingResultFollowsTheRundown : Prop :=
  ∀ (e : Env) (habs : Option Fc) (cfg : LaneCfg) (onAir : Option Item) (next : Option Nat) (items : List Item),
    let t := computeTiming e habs cfg onAir next items
    let effective := fun it : Item => match t.absorber with
      | some (k, peff) => if it.key = k then peff else it.planned
      | none => it.planned
    let label := fun d : Int => e.ref.rate.label (((e.ref.t : Int) + d) % e.ref.rate.day).toNat
    t.computedAt = e.ref.fc ∧
    t.remOn = (match onAir with
      | none => 0
      | some it => if it.place = .standby then 0 else it.effPlanned.getD 0 - it.elapsed e) ∧
    t.rawOver = habs.map (fun h => fcDist h e.ref.fc + t.remOn + ((items.map (·.planned)).sum : Nat)) ∧
    ((∀ it ∈ items, it.absorber = none) → t.absorber = none ∧ t.overA = t.rawOver) ∧
    (∀ (above : List Item) (it : Item) (below : List Item) (a : Absorber), items = above ++ it :: below →
      (∀ x ∈ above, x.absorber = none) → it.absorber = some a → a.min ≤ a.max →
      ∃ peff : Nat, t.absorber = some (it.key, peff) ∧ a.min ≤ peff ∧ peff ≤ a.max ∧
        (t.rawOver = none → peff = max a.min (min a.max it.planned) ∧ t.overA = none) ∧
        (∀ raw, t.rawOver = some raw → (peff : Int) = max (a.min : Int) (min (a.max : Int) (it.planned - raw)) ∧
          t.overA = some (raw - it.planned + peff))) ∧
    t.items.map (·.key) = items.map (·.key) ∧
    (∀ above it below, items = above ++ it :: below → ∃ x, t.items[above.length]? = some x ∧
      x.front = (t.remOn : Int) + ((above.map effective).sum : Nat) ∧ x.frontLabel = label x.front ∧
      (habs = none → x.back = none) ∧
      (∀ h, habs = some h → ∃ b, x.back = some (b, label b) ∧
        b = fcDist e.ref.fc h - ((((it :: below).map effective).sum : Nat) : Int))) ∧
    (∀ h o, habs = some h → t.overA = some o → (items.map (·.key)).Nodup → fcDist e.ref.fc h ≠ -2147483648 →
      ∀ x b, x ∈ t.items → x.back = some b → b.1 = x.front - o) ∧
    (habs = none → t.rawOver = none ∧ t.overA = none ∧ t.plan = [] ∧ t.residual = none)

/-- The fit plan: where a plan is built, the candidates are taken by drop priority, highest first, the lower in the lane's order first
among equals, until the over is met or they run out, and the residual is what is left; elsewhere the plan is empty and the
residual absent. A recompute replaces the result by the one of the lane's ON_AIR and included items and writes the marks: the plan's in
ADVISE, and in AUTO with a substitute, and none elsewhere. A lane that is due is recomputed within the event. A carry-out recomputes,
and in AUTO without a substitute drops the plan's items with one notice (R73, R77, R84 to R87). -/
def Obligations.FitPlanTakesCandidatesInOrder : Prop :=
  (∀ (e : Env) (habs : Option Fc) (cfg : LaneCfg) (onAir : Option Item) (next : Option Nat) (items : List Item),
    let t := computeTiming e habs cfg onAir next items
    let candidates := ((items.zip t.items).filter (fun x =>
      decide (1 ≤ x.1.dropPriority) && decide (0 < x.1.planned) && decide (some x.1.key ≠ next) &&
        decide (some x.1.key ≠ t.absorber.map (·.1)) && decide ((cfg.lockWindow : Int) < x.2.front))).map (·.1)
    t.items.length = items.length ∧
    (habs = none ∨ cfg.fitMode = .off ∨ (∃ o, t.overA = some o ∧ o ≤ 0) → t.plan = [] ∧ t.residual = none) ∧
    (∀ o, t.overA = some o → 0 < o → cfg.fitMode ≠ .off →
      ∃ order taken left : List Item, order = taken ++ left ∧
        order.Pairwise (fun a b => b.dropPriority ≤ a.dropPriority) ∧
        (∀ n, order.filter (fun it => decide (it.dropPriority = n)) =
          (candidates.filter (fun it => decide (it.dropPriority = n))).reverse) ∧
        t.plan = taken.map (·.key) ∧
        t.residual = some (o - ((taken.map (·.planned)).sum : Nat)) ∧
        (left = [] ∨ o - ((taken.map (·.planned)).sum : Nat) ≤ 0) ∧
        (∀ before : List Item, before <+: taken → before ≠ taken → 0 < o - ((before.map (·.planned)).sum : Nat)))) ∧
  (∀ (e : Env) (w : World) (l : Fin 4),
    let c := e.cfg.lanes.get l
    let w' := World.recompute e w l
    let t := computeTiming e ((e.cfg.hardOuts.get l).map (·.habs)) c ((w.lane l).onAir.bind w.item?) (w.lane l).next
      (((belowCursor (w.store.orders.get l) (w.lane l).cursor).filterMap w.item?).filter (fun it =>
        decide ((it.state = .pending ∨ it.state = .next) ∧ it.disposition = .inOrder)))
    let marks := c.fitMode = .advise ∨ (c.fitMode = .auto ∧ c.substitute ≠ none)
    w'.timing = w.timing.set l t ∧
    (∀ k it, w.item? k = some it → ∃ it', w'.item? k = some it' ∧
      it'.record = { it.record with proposed :=
        if it.lane = l ∧ it.place = .order then decide (marks ∧ it.key ∈ t.plan) else it.proposed }) ∧
    w'.store.orders = w.store.orders ∧ w'.store.standbys = w.store.standbys ∧
    w'.store.freeItems = w.store.freeItems ∧ w'.store.freeElements = w.store.freeElements ∧ w'.monitor = w.monitor ∧
    (∀ l', (w'.lane l').standing = (w.lane l').standing)) ∧
  (∀ (e : Env) (w : World) (l : Fin 4),
    ((w.due.get l).recompute = true → ((World.settle e w).timing.get l).computedAt = e.ref.fc) ∧
    Task.engine l ∈ arrivalTasks true ∧ Task.engine l ∈ arrivalTasks false ∧
    Task.work e w (.engine l) = if (w.lane l).state = .idle then w
      else w.setDue l { w.due.get l with recompute := true }) ∧
  (∀ (e : Env) (w : World) (l : Fin 4),
    let c := e.cfg.lanes.get l
    let made := World.recompute e w l
    let plan := (made.timing.get l).plan
    let carried := c.fitMode = .auto ∧ c.substitute = none ∧ plan ≠ []
    let dropped := made.setStore { made.store with items := made.store.items.map (fun it =>
      if it.key ∈ plan then { it with disposition := .dropped, proposed := false } else it) }
    (¬carried → World.carryOut e w l = made) ∧
    (carried → World.carryOut e w l = World.applyNotice e dropped l (.between made dropped l)))

/-- A claim asked for a free entry is granted, to its holder's lane for one item more, and to another lane answered CONFLICT with the lane
at the end of the waiter list, once; of R147's second row and R148 the latter is followed (log 41). A release leaves the other user
its claim; the last one hands the entry to the first waiter that needs it, for its items that name the entry, whose clips leave
CONFLICT, or leaves it free with no waiters (R103, R147 to R150). -/
def Obligations.ClaimsAreAnsweredByTheirHolder : Prop :=
  (∀ (w : World) (l : Fin 4) (k : Nat) (d : Fin 64),
    let m := w.map.get d
    let r := w.requestClaim l k d
    (m.claim = none → r.2 = .granted ∧ (r.1.map.get d).claim = some { lane := l, users := [k] }) ∧
    (∀ c, m.claim = some c → c.lane = l → r.2 ≠ .conflict ∧
      (r.1.map.get d).claim = some { lane := l, users := if k ∈ c.users then c.users else c.users ++ [k] } ∧
      (r.2 = .deferred ↔ (w.lane l).next = some k ∧ ∃ it, w.onAirItem? l = some it ∧ it.key ∈ c.users ∧ it.key ≠ k ∧
        it.hasUsed d = true)) ∧
    (∀ c, m.claim = some c → c.lane ≠ l → r.2 = .conflict ∧ (r.1.map.get d).claim = some c ∧
      (r.1.map.get d).waiters = (if l ∈ m.waiters then m.waiters else m.waiters ++ [l])) ∧
    (∀ d', d' ≠ d → r.1.map.get d' = w.map.get d') ∧ r.1.lanes = w.lanes ∧ r.1.ports = w.ports) ∧
  (∀ (e : Env) (w : World) (l : Fin 4) (k : Nat) (d : Fin 64) (c : Claim),
    let m := w.map.get d
    let w' := World.releaseUse e l k w d
    let others := c.users.filter (fun x => decide (x ≠ k))
    let names := fun k' : Nat => ∃ it, w.item? k' = some it ∧ it.hasClipOn d = true
    let held := fun l' : Fin 4 => (w.lane l').next.toList ++ (w.lane l').onAir.toList
    let needs := fun l' : Fin 4 => ∃ k' ∈ held l', names k'
    m.claim = some c →
    (c.lane ≠ l ∨ k ∉ c.users → w' = w) ∧
    (c.lane = l → k ∈ c.users → others ≠ [] → w' = w.setEntry d { m with claim := some { c with users := others } }) ∧
    (c.lane = l → k ∈ c.users → others = [] → (∀ x ∈ m.waiters, ¬needs x) →
      w' = w.setEntry d { m with claim := none, waiters := [] }) ∧
    (∀ (passed : List (Fin 4)) (l' : Fin 4) (rest : List (Fin 4)), c.lane = l → k ∈ c.users → others = [] →
      m.waiters = passed ++ l' :: rest → (∀ x ∈ passed, ¬needs x) → needs l' →
      (∃ users, (w'.map.get d).claim = some { lane := l', users := users } ∧ users.Sublist (held l') ∧
        ∀ k', k' ∈ users ↔ k' ∈ held l' ∧ names k') ∧
      (w'.map.get d).waiters = rest.filter (fun x => decide (x ≠ l')) ∧
      (∀ d', (w'.map.get d').service = (w.map.get d').service) ∧
      (w.store.Ok → ∀ k' it' el, k' ∈ held l' → w'.item? k' = some it' → el ∈ it'.elements → el.isClipOn d = true →
        el.load ≠ .conflict)))

/-- A submission is answered by the port's state and the lane's FIFO; a run of the arbiter transmits until the window holds four or
nothing may be picked, each message with a seq that no outstanding record holds. An element fires by its kind: a CLIP_STOP, GFX_IN
or GFX_OUT submits its message where its device resolves; a LOADED clip its ROLL, which makes it the last rolled; a LOADING one
waits, one in CONFLICT or LOAD_FAILED fails, an UNLOADED one sends its LOAD; a CUE gives its GO. Fired late, it has its late flag
(R125, R128, R129, R131, R153, R162, R164, R165). -/
def Obligations.SubmissionAndArbiterFillTheWindow : Prop :=
  (∀ (e : Env) (w : World) (p : Fin 8) (msg : CueMsg) (owner : Owner),
    let r := w.ports.get p
    let queued := w.setPort p { r with fifos := r.fifos.set owner.lane (r.fifos.get owner.lane ++ [{ msg, owner }]) }
    (r.state ≠ .inService → World.submit e w p msg owner = (w, .portFault)) ∧
    (r.state = .inService → 4 ≤ (r.fifos.get owner.lane).length → World.submit e w p msg owner = (w, .portBusy)) ∧
    (r.state = .inService → (r.fifos.get owner.lane).length < 4 →
      World.submit e w p msg owner = (World.arbiter e queued p, .taken))) ∧
  (∀ (e : Env) (w : World) (p : Fin 8), (w.ports.get p).Ok →
    let r := w.ports.get p
    let r' := (World.arbiter e w p).ports.get p
    ∃ sent : List WinRec, r'.window = r.window ++ sent ∧ (∀ x ∈ sent, x.sent = e.ref.fc) ∧
      (World.arbiter e w p).out.cue = w.out.cue ++ sent.map (fun x => (p, x.msg.frame x.seq)) ∧
      (r'.window.map (·.seq)).Nodup ∧ (r'.window.length = 4 ∨ r'.pick (e.cfg.ports.get p) = none) ∧
      (∀ q, q ≠ p → (World.arbiter e w p).ports.get q = w.ports.get q) ∧
      (World.arbiter e w p).store = w.store ∧ (World.arbiter e w p).lanes = w.lanes) ∧
  (∀ (e : Env) (w : World) (l : Fin 4) (it : Item) (el : Element) (due : Fc),
    let ref := it.refOf el
    let fired := World.fireElement e w l ref due
    let after := (fired.1.store.elem? ref).map (·.2)
    let el1 := if 0 < fcDist due e.ref.fc then { el with late := true } else el
    let sent := { el1 with fire := FireState.sent, failReason := none }
    let failed := fun r : FailReason => { el1 with fire := FireState.failed, failReason := some r }
    let room := fun t : Target => (w.ports.get t.port).state = .inService ∧ ((w.ports.get t.port).fifos.get l).length < 4
    let busy := fun t : Target => (w.ports.get t.port).state = .inService ∧ 4 ≤ ((w.ports.get t.port).fifos.get l).length
    let shut := fun t : Target => (w.ports.get t.port).state ≠ .inService
    let owner : Owner := { lane := l, ref := ref, pass := el.pass, number := 0 }
    w.store.elem? ref = some (it, el) →
    (∀ d (msg : Fin 8 → CueMsg), (el.content = .clipStop d ∧ msg = .stopClip) ∨
        (∃ x y, el.content = .gfxIn d x y ∧ msg = fun ch => .gfxIn ch x y) ∨
        (∃ x, el.content = .gfxOut d x ∧ msg = fun ch => .gfxOut ch x) →
      let m := w.map.get d
      let t := m.target
      let barred := el.content = .clipStop d ∧ m.cls = .playout ∧ ∃ c, m.claim = some c ∧ c.lane ≠ l
      fired.2 = false ∧
      (m.valid = false → after = some (failed .unmapped)) ∧
      (m.valid = true → (w.ports.get t.port).state = .down → after = some (failed .portFault)) ∧
      (m.valid = true → (w.ports.get t.port).state = .inService → barred → after = some (failed .nakBusy)) ∧
      (m.valid = true → ¬barred → busy t → after = some (failed .portBusy)) ∧
      (m.valid = true → ¬barred → room t → after = some sent ∧
        fired.1.ports = (World.submit e w t.port (msg t.channel) owner).1.ports)) ∧
    (∀ d clip, el.content = .clip d clip →
      let m := w.map.get d
      let t := m.target
      (el.load = .loading → fired.2 = true ∧ after = some el1) ∧
      (el.load = .conflict → fired.2 = false ∧ after = some (failed .nakBusy)) ∧
      (∀ f, el.load = .loadFailed → el.loadFailure = some f → fired.2 = false ∧ after = some (failed f.reason)) ∧
      (∀ x, el.load = .loaded → el.loadTarget = some x → fired.2 = false ∧
        (shut x → after = some (failed .portFault)) ∧ (busy x → after = some (failed .portBusy)) ∧
        (room x → after = some sent ∧ fired.1.rolls.get x.place = some owner ∧
          fired.1.ports = (World.submit e w x.port (.roll x.channel) owner).1.ports)) ∧
      (el.load = .unloaded → m.valid = false → fired.2 = false ∧ after = some (failed .unmapped)) ∧
      (∀ c, el.load = .unloaded → m.valid = true → m.cls = .playout → (w.ports.get t.port).state = .inService →
        m.claim = some c → c.lane ≠ l → w.store.Ok →
        fired.2 = false ∧ (after.map (·.fire) = some .failed) ∧ (after.bind (·.failReason) = some .nakBusy) ∧
        l ∈ (fired.1.map.get d).waiters) ∧
      (el.load = .unloaded → m.valid = true → (m.cls = .graphics ∨ ∀ c, m.claim = some c → c.lane = l) →
        (w.lane l).next ≠ some it.key → w.store.Ok →
        (busy t → fired.2 = false ∧ (after.map (·.fire) = some .failed) ∧ (after.bind (·.failReason) = some .portBusy)) ∧
        (room t → fired.2 = true ∧
          after = some { el1 with load := .loading, loadTarget := some t, loadFailure := none } ∧
          ∃ y ∈ (fired.1.lane l).loadList, y.ref = ref ∧ y.key = it.key ∧ y.device = d ∧ y.target = t))) ∧
    (∀ st lead g, el.content = .cue st lead g →
      let r := w.stations.get st
      fired.2 = false ∧ ref ∉ (fired.1.lane l).cueList ∧
      (r.lane ≠ some l → after = some (failed .wrongLane)) ∧
      (r.lane = some l → r.present = false → after = some (failed .portFault)) ∧
      (r.lane = some l → r.present = true → after = some { el1 with fire := .done, failReason := none } ∧
        (fired.1.stations.get st).go = some { key := it.key, ref := ref, label := it.label })))

/-! ### What every command keeps -/

/-- Settling an event, the judgements, recomputes and levels that it makes due, moves no port, station or map entry out of its standing,
starts and stops no lane, latches no event condition, leaves OVER and UNDER to their evaluations, and changes what no item is (a
DONE item may be freed by retention). -/
def Obligations.SettlingKeepsWhatItDoesNotOwn : Prop :=
  ∀ (e : Env) (w : World),
    let w' := World.settle e w
    (∀ p, (w'.ports.get p).standing = (w.ports.get p).standing) ∧
    (∀ st, (w'.stations.get st).standing = (w.stations.get st).standing) ∧
    (∀ d, (w'.map.get d).service = (w.map.get d).service) ∧
    (∀ l, (w'.lane l).state = .idle ↔ (w.lane l).state = .idle) ∧
    w'.store.contents.Sublist w.store.contents ∧ w'.out.sdo = w.out.sdo ∧
    w'.monitor.gateTimeout = w.monitor.gateTimeout ∧ w'.monitor.clockSlip = w.monitor.clockSlip ∧
    w'.monitor.rxOverrun = w.monitor.rxOverrun ∧ w'.monitor.stationCall = w.monitor.stationCall ∧
    w'.monitor.stationHold = w.monitor.stationHold ∧ w'.monitor.overI = w.monitor.overI ∧
    w'.monitor.underI = w.monitor.underI ∧ w'.monitor.overCount = w.monitor.overCount ∧
    w'.monitor.underCount = w.monitor.underCount

/-- Every step keeps the store whole: each key once, every record of the pools either in use or free and once, and every item in its one
place (R1, R4 to R7). -/
def Obligations.EveryStepKeepsTheStoreWhole : Prop :=
  ∀ s t : State, s.dev.world.store.Ok → s.dev.world.store.Placed → step s = .next t →
    t.dev.world.store.Ok ∧ t.dev.world.store.Placed

/-- Every step keeps every port within its queues, with distinct outstanding seqs and nothing held out of service (R159, R161 to R165,
R169, R174). -/
def Obligations.EveryStepKeepsThePorts : Prop :=
  ∀ s t : State, (∀ p, (s.dev.world.ports.get p).Ok) → step s = .next t → ∀ p, (t.dev.world.ports.get p).Ok

/-- Every step keeps every map entry's claim held by one lane that does not wait, for at least one item, and only on a VALID PLAYOUT
entry (R141, R146, R149, R150). -/
def Obligations.EveryStepKeepsTheClaims : Prop :=
  ∀ s t : State, (∀ d, (s.dev.world.map.get d).Ok) → step s = .next t → ∀ d, (t.dev.world.map.get d).Ok

/-- Every step keeps an IDLE lane with nothing on air, no NEXT and no held-by flag, the Reference Unit's counts and timers in step with
its state, and the control port's queues at four or fewer (R55 to R60, R65, R67, R95, R96, R203, R204). -/
def Obligations.EveryStepKeepsLanesClockAndQueues : Prop :=
  (∀ s t : State, (∀ l, (s.dev.world.lane l).Ok) → step s = .next t → ∀ l, (t.dev.world.lane l).Ok) ∧
  (∀ s t : State, s.dev.env.ref.Ok → step s = .next t → t.dev.env.ref.Ok) ∧
  (∀ s t : State, s.ctl.Ok → step s = .next t → t.ctl.Ok)

/-- The state after reset meets every invariant that the steps keep. -/
def Obligations.ResetMeetsTheInvariants : Prop :=
  State.reset.dev.world.store.Ok ∧ State.reset.dev.world.store.Placed ∧ (∀ p, (State.reset.dev.world.ports.get p).Ok) ∧
  (∀ d, (State.reset.dev.world.map.get d).Ok) ∧ (∀ l, (State.reset.dev.world.lane l).Ok) ∧ State.reset.dev.env.ref.Ok ∧
  State.reset.ctl.Ok
end

