-- ==== Sys2Proof/Laws/State.lean ====
section
/-! SUPPORT. One lemma for each field and each update of the records: what an update leaves and what it writes. All are true by
definition and tagged for `simp`, so that no later proof unfolds a record update. -/
namespace Sys2Proof.Machine


/-! ### The world -/

@[simp] theorem World.setStore_store (w : World) (s : Store) : (w.setStore s).store = s := rfl
@[simp] theorem World.setStore_lanes (w : World) (s : Store) : (w.setStore s).lanes = w.lanes := rfl
@[simp] theorem World.setStore_timing (w : World) (s : Store) : (w.setStore s).timing = w.timing := rfl
@[simp] theorem World.setStore_map (w : World) (s : Store) : (w.setStore s).map = w.map := rfl
@[simp] theorem World.setStore_rolls (w : World) (s : Store) : (w.setStore s).rolls = w.rolls := rfl
@[simp] theorem World.setStore_ports (w : World) (s : Store) : (w.setStore s).ports = w.ports := rfl
@[simp] theorem World.setStore_stations (w : World) (s : Store) : (w.setStore s).stations = w.stations := rfl
@[simp] theorem World.setStore_monitor (w : World) (s : Store) : (w.setStore s).monitor = w.monitor := rfl
@[simp] theorem World.setStore_pulse (w : World) (s : Store) : (w.setStore s).pulse = w.pulse := rfl
@[simp] theorem World.setStore_due (w : World) (s : Store) : (w.setStore s).due = w.due := rfl
@[simp] theorem World.setStore_loads (w : World) (s : Store) : (w.setStore s).loads = w.loads := rfl
@[simp] theorem World.setStore_out (w : World) (s : Store) : (w.setStore s).out = w.out := rfl
@[simp] theorem World.setLane_store (w : World) (l : Fin 4) (r : LaneRec) : (w.setLane l r).store = w.store := rfl
@[simp] theorem World.setLane_lanes (w : World) (l : Fin 4) (r : LaneRec) : (w.setLane l r).lanes = w.lanes.set l r := rfl
@[simp] theorem World.setLane_timing (w : World) (l : Fin 4) (r : LaneRec) : (w.setLane l r).timing = w.timing := rfl
@[simp] theorem World.setLane_map (w : World) (l : Fin 4) (r : LaneRec) : (w.setLane l r).map = w.map := rfl
@[simp] theorem World.setLane_rolls (w : World) (l : Fin 4) (r : LaneRec) : (w.setLane l r).rolls = w.rolls := rfl
@[simp] theorem World.setLane_ports (w : World) (l : Fin 4) (r : LaneRec) : (w.setLane l r).ports = w.ports := rfl
@[simp] theorem World.setLane_stations (w : World) (l : Fin 4) (r : LaneRec) : (w.setLane l r).stations = w.stations := rfl
@[simp] theorem World.setLane_monitor (w : World) (l : Fin 4) (r : LaneRec) : (w.setLane l r).monitor = w.monitor := rfl
@[simp] theorem World.setLane_pulse (w : World) (l : Fin 4) (r : LaneRec) : (w.setLane l r).pulse = w.pulse := rfl
@[simp] theorem World.setLane_due (w : World) (l : Fin 4) (r : LaneRec) : (w.setLane l r).due = w.due := rfl
@[simp] theorem World.setLane_loads (w : World) (l : Fin 4) (r : LaneRec) : (w.setLane l r).loads = w.loads := rfl
@[simp] theorem World.setLane_out (w : World) (l : Fin 4) (r : LaneRec) : (w.setLane l r).out = w.out := rfl
@[simp] theorem World.modLane_store (w : World) (l : Fin 4) (f : LaneRec → LaneRec) : (w.modLane l f).store = w.store := rfl
@[simp] theorem World.modLane_lanes (w : World) (l : Fin 4) (f : LaneRec → LaneRec) : (w.modLane l f).lanes = w.lanes.set l (f (w.lane l)) := rfl
@[simp] theorem World.modLane_timing (w : World) (l : Fin 4) (f : LaneRec → LaneRec) : (w.modLane l f).timing = w.timing := rfl
@[simp] theorem World.modLane_map (w : World) (l : Fin 4) (f : LaneRec → LaneRec) : (w.modLane l f).map = w.map := rfl
@[simp] theorem World.modLane_rolls (w : World) (l : Fin 4) (f : LaneRec → LaneRec) : (w.modLane l f).rolls = w.rolls := rfl
@[simp] theorem World.modLane_ports (w : World) (l : Fin 4) (f : LaneRec → LaneRec) : (w.modLane l f).ports = w.ports := rfl
@[simp] theorem World.modLane_stations (w : World) (l : Fin 4) (f : LaneRec → LaneRec) : (w.modLane l f).stations = w.stations := rfl
@[simp] theorem World.modLane_monitor (w : World) (l : Fin 4) (f : LaneRec → LaneRec) : (w.modLane l f).monitor = w.monitor := rfl
@[simp] theorem World.modLane_pulse (w : World) (l : Fin 4) (f : LaneRec → LaneRec) : (w.modLane l f).pulse = w.pulse := rfl
@[simp] theorem World.modLane_due (w : World) (l : Fin 4) (f : LaneRec → LaneRec) : (w.modLane l f).due = w.due := rfl
@[simp] theorem World.modLane_loads (w : World) (l : Fin 4) (f : LaneRec → LaneRec) : (w.modLane l f).loads = w.loads := rfl
@[simp] theorem World.modLane_out (w : World) (l : Fin 4) (f : LaneRec → LaneRec) : (w.modLane l f).out = w.out := rfl
@[simp] theorem World.setPort_store (w : World) (p : Fin 8) (r : Port) : (w.setPort p r).store = w.store := rfl
@[simp] theorem World.setPort_lanes (w : World) (p : Fin 8) (r : Port) : (w.setPort p r).lanes = w.lanes := rfl
@[simp] theorem World.setPort_timing (w : World) (p : Fin 8) (r : Port) : (w.setPort p r).timing = w.timing := rfl
@[simp] theorem World.setPort_map (w : World) (p : Fin 8) (r : Port) : (w.setPort p r).map = w.map := rfl
@[simp] theorem World.setPort_rolls (w : World) (p : Fin 8) (r : Port) : (w.setPort p r).rolls = w.rolls := rfl
@[simp] theorem World.setPort_ports (w : World) (p : Fin 8) (r : Port) : (w.setPort p r).ports = w.ports.set p r := rfl
@[simp] theorem World.setPort_stations (w : World) (p : Fin 8) (r : Port) : (w.setPort p r).stations = w.stations := rfl
@[simp] theorem World.setPort_monitor (w : World) (p : Fin 8) (r : Port) : (w.setPort p r).monitor = w.monitor := rfl
@[simp] theorem World.setPort_pulse (w : World) (p : Fin 8) (r : Port) : (w.setPort p r).pulse = w.pulse := rfl
@[simp] theorem World.setPort_due (w : World) (p : Fin 8) (r : Port) : (w.setPort p r).due = w.due := rfl
@[simp] theorem World.setPort_loads (w : World) (p : Fin 8) (r : Port) : (w.setPort p r).loads = w.loads := rfl
@[simp] theorem World.setPort_out (w : World) (p : Fin 8) (r : Port) : (w.setPort p r).out = w.out := rfl
@[simp] theorem World.modPort_store (w : World) (p : Fin 8) (f : Port → Port) : (w.modPort p f).store = w.store := rfl
@[simp] theorem World.modPort_lanes (w : World) (p : Fin 8) (f : Port → Port) : (w.modPort p f).lanes = w.lanes := rfl
@[simp] theorem World.modPort_timing (w : World) (p : Fin 8) (f : Port → Port) : (w.modPort p f).timing = w.timing := rfl
@[simp] theorem World.modPort_map (w : World) (p : Fin 8) (f : Port → Port) : (w.modPort p f).map = w.map := rfl
@[simp] theorem World.modPort_rolls (w : World) (p : Fin 8) (f : Port → Port) : (w.modPort p f).rolls = w.rolls := rfl
@[simp] theorem World.modPort_ports (w : World) (p : Fin 8) (f : Port → Port) : (w.modPort p f).ports = w.ports.set p (f (w.ports.get p)) := rfl
@[simp] theorem World.modPort_stations (w : World) (p : Fin 8) (f : Port → Port) : (w.modPort p f).stations = w.stations := rfl
@[simp] theorem World.modPort_monitor (w : World) (p : Fin 8) (f : Port → Port) : (w.modPort p f).monitor = w.monitor := rfl
@[simp] theorem World.modPort_pulse (w : World) (p : Fin 8) (f : Port → Port) : (w.modPort p f).pulse = w.pulse := rfl
@[simp] theorem World.modPort_due (w : World) (p : Fin 8) (f : Port → Port) : (w.modPort p f).due = w.due := rfl
@[simp] theorem World.modPort_loads (w : World) (p : Fin 8) (f : Port → Port) : (w.modPort p f).loads = w.loads := rfl
@[simp] theorem World.modPort_out (w : World) (p : Fin 8) (f : Port → Port) : (w.modPort p f).out = w.out := rfl
@[simp] theorem World.setStation_store (w : World) (st : Fin 6) (r : Station) : (w.setStation st r).store = w.store := rfl
@[simp] theorem World.setStation_lanes (w : World) (st : Fin 6) (r : Station) : (w.setStation st r).lanes = w.lanes := rfl
@[simp] theorem World.setStation_timing (w : World) (st : Fin 6) (r : Station) : (w.setStation st r).timing = w.timing := rfl
@[simp] theorem World.setStation_map (w : World) (st : Fin 6) (r : Station) : (w.setStation st r).map = w.map := rfl
@[simp] theorem World.setStation_rolls (w : World) (st : Fin 6) (r : Station) : (w.setStation st r).rolls = w.rolls := rfl
@[simp] theorem World.setStation_ports (w : World) (st : Fin 6) (r : Station) : (w.setStation st r).ports = w.ports := rfl
@[simp] theorem World.setStation_stations (w : World) (st : Fin 6) (r : Station) : (w.setStation st r).stations = w.stations.set st r := rfl
@[simp] theorem World.setStation_monitor (w : World) (st : Fin 6) (r : Station) : (w.setStation st r).monitor = w.monitor := rfl
@[simp] theorem World.setStation_pulse (w : World) (st : Fin 6) (r : Station) : (w.setStation st r).pulse = w.pulse := rfl
@[simp] theorem World.setStation_due (w : World) (st : Fin 6) (r : Station) : (w.setStation st r).due = w.due := rfl
@[simp] theorem World.setStation_loads (w : World) (st : Fin 6) (r : Station) : (w.setStation st r).loads = w.loads := rfl
@[simp] theorem World.setStation_out (w : World) (st : Fin 6) (r : Station) : (w.setStation st r).out = w.out := rfl
@[simp] theorem World.modStation_store (w : World) (st : Fin 6) (f : Station → Station) : (w.modStation st f).store = w.store := rfl
@[simp] theorem World.modStation_lanes (w : World) (st : Fin 6) (f : Station → Station) : (w.modStation st f).lanes = w.lanes := rfl
@[simp] theorem World.modStation_timing (w : World) (st : Fin 6) (f : Station → Station) : (w.modStation st f).timing = w.timing := rfl
@[simp] theorem World.modStation_map (w : World) (st : Fin 6) (f : Station → Station) : (w.modStation st f).map = w.map := rfl
@[simp] theorem World.modStation_rolls (w : World) (st : Fin 6) (f : Station → Station) : (w.modStation st f).rolls = w.rolls := rfl
@[simp] theorem World.modStation_ports (w : World) (st : Fin 6) (f : Station → Station) : (w.modStation st f).ports = w.ports := rfl
@[simp] theorem World.modStation_stations (w : World) (st : Fin 6) (f : Station → Station) : (w.modStation st f).stations = w.stations.set st (f (w.stations.get st)) := rfl
@[simp] theorem World.modStation_monitor (w : World) (st : Fin 6) (f : Station → Station) : (w.modStation st f).monitor = w.monitor := rfl
@[simp] theorem World.modStation_pulse (w : World) (st : Fin 6) (f : Station → Station) : (w.modStation st f).pulse = w.pulse := rfl
@[simp] theorem World.modStation_due (w : World) (st : Fin 6) (f : Station → Station) : (w.modStation st f).due = w.due := rfl
@[simp] theorem World.modStation_loads (w : World) (st : Fin 6) (f : Station → Station) : (w.modStation st f).loads = w.loads := rfl
@[simp] theorem World.modStation_out (w : World) (st : Fin 6) (f : Station → Station) : (w.modStation st f).out = w.out := rfl
@[simp] theorem World.setEntry_store (w : World) (d : Fin 64) (m : MapEntry) : (w.setEntry d m).store = w.store := rfl
@[simp] theorem World.setEntry_lanes (w : World) (d : Fin 64) (m : MapEntry) : (w.setEntry d m).lanes = w.lanes := rfl
@[simp] theorem World.setEntry_timing (w : World) (d : Fin 64) (m : MapEntry) : (w.setEntry d m).timing = w.timing := rfl
@[simp] theorem World.setEntry_map (w : World) (d : Fin 64) (m : MapEntry) : (w.setEntry d m).map = w.map.set d m := rfl
@[simp] theorem World.setEntry_rolls (w : World) (d : Fin 64) (m : MapEntry) : (w.setEntry d m).rolls = w.rolls := rfl
@[simp] theorem World.setEntry_ports (w : World) (d : Fin 64) (m : MapEntry) : (w.setEntry d m).ports = w.ports := rfl
@[simp] theorem World.setEntry_stations (w : World) (d : Fin 64) (m : MapEntry) : (w.setEntry d m).stations = w.stations := rfl
@[simp] theorem World.setEntry_monitor (w : World) (d : Fin 64) (m : MapEntry) : (w.setEntry d m).monitor = w.monitor := rfl
@[simp] theorem World.setEntry_pulse (w : World) (d : Fin 64) (m : MapEntry) : (w.setEntry d m).pulse = w.pulse := rfl
@[simp] theorem World.setEntry_due (w : World) (d : Fin 64) (m : MapEntry) : (w.setEntry d m).due = w.due := rfl
@[simp] theorem World.setEntry_loads (w : World) (d : Fin 64) (m : MapEntry) : (w.setEntry d m).loads = w.loads := rfl
@[simp] theorem World.setEntry_out (w : World) (d : Fin 64) (m : MapEntry) : (w.setEntry d m).out = w.out := rfl
@[simp] theorem World.modEntry_store (w : World) (d : Fin 64) (f : MapEntry → MapEntry) : (w.modEntry d f).store = w.store := rfl
@[simp] theorem World.modEntry_lanes (w : World) (d : Fin 64) (f : MapEntry → MapEntry) : (w.modEntry d f).lanes = w.lanes := rfl
@[simp] theorem World.modEntry_timing (w : World) (d : Fin 64) (f : MapEntry → MapEntry) : (w.modEntry d f).timing = w.timing := rfl
@[simp] theorem World.modEntry_map (w : World) (d : Fin 64) (f : MapEntry → MapEntry) : (w.modEntry d f).map = w.map.set d (f (w.map.get d)) := rfl
@[simp] theorem World.modEntry_rolls (w : World) (d : Fin 64) (f : MapEntry → MapEntry) : (w.modEntry d f).rolls = w.rolls := rfl
@[simp] theorem World.modEntry_ports (w : World) (d : Fin 64) (f : MapEntry → MapEntry) : (w.modEntry d f).ports = w.ports := rfl
@[simp] theorem World.modEntry_stations (w : World) (d : Fin 64) (f : MapEntry → MapEntry) : (w.modEntry d f).stations = w.stations := rfl
@[simp] theorem World.modEntry_monitor (w : World) (d : Fin 64) (f : MapEntry → MapEntry) : (w.modEntry d f).monitor = w.monitor := rfl
@[simp] theorem World.modEntry_pulse (w : World) (d : Fin 64) (f : MapEntry → MapEntry) : (w.modEntry d f).pulse = w.pulse := rfl
@[simp] theorem World.modEntry_due (w : World) (d : Fin 64) (f : MapEntry → MapEntry) : (w.modEntry d f).due = w.due := rfl
@[simp] theorem World.modEntry_loads (w : World) (d : Fin 64) (f : MapEntry → MapEntry) : (w.modEntry d f).loads = w.loads := rfl
@[simp] theorem World.modEntry_out (w : World) (d : Fin 64) (f : MapEntry → MapEntry) : (w.modEntry d f).out = w.out := rfl
@[simp] theorem World.setMonitor_store (w : World) (m : Monitor) : (w.setMonitor m).store = w.store := rfl
@[simp] theorem World.setMonitor_lanes (w : World) (m : Monitor) : (w.setMonitor m).lanes = w.lanes := rfl
@[simp] theorem World.setMonitor_timing (w : World) (m : Monitor) : (w.setMonitor m).timing = w.timing := rfl
@[simp] theorem World.setMonitor_map (w : World) (m : Monitor) : (w.setMonitor m).map = w.map := rfl
@[simp] theorem World.setMonitor_rolls (w : World) (m : Monitor) : (w.setMonitor m).rolls = w.rolls := rfl
@[simp] theorem World.setMonitor_ports (w : World) (m : Monitor) : (w.setMonitor m).ports = w.ports := rfl
@[simp] theorem World.setMonitor_stations (w : World) (m : Monitor) : (w.setMonitor m).stations = w.stations := rfl
@[simp] theorem World.setMonitor_monitor (w : World) (m : Monitor) : (w.setMonitor m).monitor = m := rfl
@[simp] theorem World.setMonitor_pulse (w : World) (m : Monitor) : (w.setMonitor m).pulse = w.pulse := rfl
@[simp] theorem World.setMonitor_due (w : World) (m : Monitor) : (w.setMonitor m).due = w.due := rfl
@[simp] theorem World.setMonitor_loads (w : World) (m : Monitor) : (w.setMonitor m).loads = w.loads := rfl
@[simp] theorem World.setMonitor_out (w : World) (m : Monitor) : (w.setMonitor m).out = w.out := rfl
@[simp] theorem World.setTiming_store (w : World) (l : Fin 4) (t : Timing) : (w.setTiming l t).store = w.store := rfl
@[simp] theorem World.setTiming_lanes (w : World) (l : Fin 4) (t : Timing) : (w.setTiming l t).lanes = w.lanes := rfl
@[simp] theorem World.setTiming_timing (w : World) (l : Fin 4) (t : Timing) : (w.setTiming l t).timing = w.timing.set l t := rfl
@[simp] theorem World.setTiming_map (w : World) (l : Fin 4) (t : Timing) : (w.setTiming l t).map = w.map := rfl
@[simp] theorem World.setTiming_rolls (w : World) (l : Fin 4) (t : Timing) : (w.setTiming l t).rolls = w.rolls := rfl
@[simp] theorem World.setTiming_ports (w : World) (l : Fin 4) (t : Timing) : (w.setTiming l t).ports = w.ports := rfl
@[simp] theorem World.setTiming_stations (w : World) (l : Fin 4) (t : Timing) : (w.setTiming l t).stations = w.stations := rfl
@[simp] theorem World.setTiming_monitor (w : World) (l : Fin 4) (t : Timing) : (w.setTiming l t).monitor = w.monitor := rfl
@[simp] theorem World.setTiming_pulse (w : World) (l : Fin 4) (t : Timing) : (w.setTiming l t).pulse = w.pulse := rfl
@[simp] theorem World.setTiming_due (w : World) (l : Fin 4) (t : Timing) : (w.setTiming l t).due = w.due := rfl
@[simp] theorem World.setTiming_loads (w : World) (l : Fin 4) (t : Timing) : (w.setTiming l t).loads = w.loads := rfl
@[simp] theorem World.setTiming_out (w : World) (l : Fin 4) (t : Timing) : (w.setTiming l t).out = w.out := rfl
@[simp] theorem World.setDue_store (w : World) (l : Fin 4) (d : LaneDue) : (w.setDue l d).store = w.store := rfl
@[simp] theorem World.setDue_lanes (w : World) (l : Fin 4) (d : LaneDue) : (w.setDue l d).lanes = w.lanes := rfl
@[simp] theorem World.setDue_timing (w : World) (l : Fin 4) (d : LaneDue) : (w.setDue l d).timing = w.timing := rfl
@[simp] theorem World.setDue_map (w : World) (l : Fin 4) (d : LaneDue) : (w.setDue l d).map = w.map := rfl
@[simp] theorem World.setDue_rolls (w : World) (l : Fin 4) (d : LaneDue) : (w.setDue l d).rolls = w.rolls := rfl
@[simp] theorem World.setDue_ports (w : World) (l : Fin 4) (d : LaneDue) : (w.setDue l d).ports = w.ports := rfl
@[simp] theorem World.setDue_stations (w : World) (l : Fin 4) (d : LaneDue) : (w.setDue l d).stations = w.stations := rfl
@[simp] theorem World.setDue_monitor (w : World) (l : Fin 4) (d : LaneDue) : (w.setDue l d).monitor = w.monitor := rfl
@[simp] theorem World.setDue_pulse (w : World) (l : Fin 4) (d : LaneDue) : (w.setDue l d).pulse = w.pulse := rfl
@[simp] theorem World.setDue_due (w : World) (l : Fin 4) (d : LaneDue) : (w.setDue l d).due = w.due.set l d := rfl
@[simp] theorem World.setDue_loads (w : World) (l : Fin 4) (d : LaneDue) : (w.setDue l d).loads = w.loads := rfl
@[simp] theorem World.setDue_out (w : World) (l : Fin 4) (d : LaneDue) : (w.setDue l d).out = w.out := rfl
@[simp] theorem World.askRecompute_store (w : World) (l : Fin 4) : (w.askRecompute l).store = w.store := rfl
@[simp] theorem World.askRecompute_lanes (w : World) (l : Fin 4) : (w.askRecompute l).lanes = w.lanes := rfl
@[simp] theorem World.askRecompute_timing (w : World) (l : Fin 4) : (w.askRecompute l).timing = w.timing := rfl
@[simp] theorem World.askRecompute_map (w : World) (l : Fin 4) : (w.askRecompute l).map = w.map := rfl
@[simp] theorem World.askRecompute_rolls (w : World) (l : Fin 4) : (w.askRecompute l).rolls = w.rolls := rfl
@[simp] theorem World.askRecompute_ports (w : World) (l : Fin 4) : (w.askRecompute l).ports = w.ports := rfl
@[simp] theorem World.askRecompute_stations (w : World) (l : Fin 4) : (w.askRecompute l).stations = w.stations := rfl
@[simp] theorem World.askRecompute_monitor (w : World) (l : Fin 4) : (w.askRecompute l).monitor = w.monitor := rfl
@[simp] theorem World.askRecompute_pulse (w : World) (l : Fin 4) : (w.askRecompute l).pulse = w.pulse := rfl
@[simp] theorem World.askRecompute_due (w : World) (l : Fin 4) : (w.askRecompute l).due = w.due.set l { w.due.get l with recompute := true } := rfl
@[simp] theorem World.askRecompute_loads (w : World) (l : Fin 4) : (w.askRecompute l).loads = w.loads := rfl
@[simp] theorem World.askRecompute_out (w : World) (l : Fin 4) : (w.askRecompute l).out = w.out := rfl
@[simp] theorem World.modItem_store (w : World) (k : Nat) (f : Item → Item) : (w.modItem k f).store = w.store.modItem k f := rfl
@[simp] theorem World.modItem_lanes (w : World) (k : Nat) (f : Item → Item) : (w.modItem k f).lanes = w.lanes := rfl
@[simp] theorem World.modItem_timing (w : World) (k : Nat) (f : Item → Item) : (w.modItem k f).timing = w.timing := rfl
@[simp] theorem World.modItem_map (w : World) (k : Nat) (f : Item → Item) : (w.modItem k f).map = w.map := rfl
@[simp] theorem World.modItem_rolls (w : World) (k : Nat) (f : Item → Item) : (w.modItem k f).rolls = w.rolls := rfl
@[simp] theorem World.modItem_ports (w : World) (k : Nat) (f : Item → Item) : (w.modItem k f).ports = w.ports := rfl
@[simp] theorem World.modItem_stations (w : World) (k : Nat) (f : Item → Item) : (w.modItem k f).stations = w.stations := rfl
@[simp] theorem World.modItem_monitor (w : World) (k : Nat) (f : Item → Item) : (w.modItem k f).monitor = w.monitor := rfl
@[simp] theorem World.modItem_pulse (w : World) (k : Nat) (f : Item → Item) : (w.modItem k f).pulse = w.pulse := rfl
@[simp] theorem World.modItem_due (w : World) (k : Nat) (f : Item → Item) : (w.modItem k f).due = w.due := rfl
@[simp] theorem World.modItem_loads (w : World) (k : Nat) (f : Item → Item) : (w.modItem k f).loads = w.loads := rfl
@[simp] theorem World.modItem_out (w : World) (k : Nat) (f : Item → Item) : (w.modItem k f).out = w.out := rfl
@[simp] theorem World.modQueue_store (w : World) (l : Fin 4) (f : List FireEntry → List FireEntry) : (w.modQueue l f).store = w.store := rfl
@[simp] theorem World.modQueue_lanes (w : World) (l : Fin 4) (f : List FireEntry → List FireEntry) : (w.modQueue l f).lanes = w.lanes.set l { w.lane l with fireQueue := f (w.lane l).fireQueue } := rfl
@[simp] theorem World.modQueue_timing (w : World) (l : Fin 4) (f : List FireEntry → List FireEntry) : (w.modQueue l f).timing = w.timing := rfl
@[simp] theorem World.modQueue_map (w : World) (l : Fin 4) (f : List FireEntry → List FireEntry) : (w.modQueue l f).map = w.map := rfl
@[simp] theorem World.modQueue_rolls (w : World) (l : Fin 4) (f : List FireEntry → List FireEntry) : (w.modQueue l f).rolls = w.rolls := rfl
@[simp] theorem World.modQueue_ports (w : World) (l : Fin 4) (f : List FireEntry → List FireEntry) : (w.modQueue l f).ports = w.ports := rfl
@[simp] theorem World.modQueue_stations (w : World) (l : Fin 4) (f : List FireEntry → List FireEntry) : (w.modQueue l f).stations = w.stations := rfl
@[simp] theorem World.modQueue_monitor (w : World) (l : Fin 4) (f : List FireEntry → List FireEntry) : (w.modQueue l f).monitor = w.monitor := rfl
@[simp] theorem World.modQueue_pulse (w : World) (l : Fin 4) (f : List FireEntry → List FireEntry) : (w.modQueue l f).pulse = w.pulse := rfl
@[simp] theorem World.modQueue_due (w : World) (l : Fin 4) (f : List FireEntry → List FireEntry) : (w.modQueue l f).due = w.due := rfl
@[simp] theorem World.modQueue_loads (w : World) (l : Fin 4) (f : List FireEntry → List FireEntry) : (w.modQueue l f).loads = w.loads := rfl
@[simp] theorem World.modQueue_out (w : World) (l : Fin 4) (f : List FireEntry → List FireEntry) : (w.modQueue l f).out = w.out := rfl
@[simp] theorem World.dropEntry_store (w : World) (l : Fin 4) (ref : ElemRef) : (w.dropEntry l ref).store = w.store := rfl
@[simp] theorem World.dropEntry_timing (w : World) (l : Fin 4) (ref : ElemRef) : (w.dropEntry l ref).timing = w.timing := rfl
@[simp] theorem World.dropEntry_map (w : World) (l : Fin 4) (ref : ElemRef) : (w.dropEntry l ref).map = w.map := rfl
@[simp] theorem World.dropEntry_rolls (w : World) (l : Fin 4) (ref : ElemRef) : (w.dropEntry l ref).rolls = w.rolls := rfl
@[simp] theorem World.dropEntry_ports (w : World) (l : Fin 4) (ref : ElemRef) : (w.dropEntry l ref).ports = w.ports := rfl
@[simp] theorem World.dropEntry_stations (w : World) (l : Fin 4) (ref : ElemRef) : (w.dropEntry l ref).stations = w.stations := rfl
@[simp] theorem World.dropEntry_monitor (w : World) (l : Fin 4) (ref : ElemRef) : (w.dropEntry l ref).monitor = w.monitor := rfl
@[simp] theorem World.dropEntry_pulse (w : World) (l : Fin 4) (ref : ElemRef) : (w.dropEntry l ref).pulse = w.pulse := rfl
@[simp] theorem World.dropEntry_due (w : World) (l : Fin 4) (ref : ElemRef) : (w.dropEntry l ref).due = w.due := rfl
@[simp] theorem World.dropEntry_loads (w : World) (l : Fin 4) (ref : ElemRef) : (w.dropEntry l ref).loads = w.loads := rfl
@[simp] theorem World.dropEntry_out (w : World) (l : Fin 4) (ref : ElemRef) : (w.dropEntry l ref).out = w.out := rfl
@[simp] theorem World.sendCue_store (w : World) (p : Fin 8) (bytes : List Byte) : (w.sendCue p bytes).store = w.store := rfl
@[simp] theorem World.sendCue_lanes (w : World) (p : Fin 8) (bytes : List Byte) : (w.sendCue p bytes).lanes = w.lanes := rfl
@[simp] theorem World.sendCue_timing (w : World) (p : Fin 8) (bytes : List Byte) : (w.sendCue p bytes).timing = w.timing := rfl
@[simp] theorem World.sendCue_map (w : World) (p : Fin 8) (bytes : List Byte) : (w.sendCue p bytes).map = w.map := rfl
@[simp] theorem World.sendCue_rolls (w : World) (p : Fin 8) (bytes : List Byte) : (w.sendCue p bytes).rolls = w.rolls := rfl
@[simp] theorem World.sendCue_ports (w : World) (p : Fin 8) (bytes : List Byte) : (w.sendCue p bytes).ports = w.ports := rfl
@[simp] theorem World.sendCue_stations (w : World) (p : Fin 8) (bytes : List Byte) : (w.sendCue p bytes).stations = w.stations := rfl
@[simp] theorem World.sendCue_monitor (w : World) (p : Fin 8) (bytes : List Byte) : (w.sendCue p bytes).monitor = w.monitor := rfl
@[simp] theorem World.sendCue_pulse (w : World) (p : Fin 8) (bytes : List Byte) : (w.sendCue p bytes).pulse = w.pulse := rfl
@[simp] theorem World.sendCue_due (w : World) (p : Fin 8) (bytes : List Byte) : (w.sendCue p bytes).due = w.due := rfl
@[simp] theorem World.sendCue_loads (w : World) (p : Fin 8) (bytes : List Byte) : (w.sendCue p bytes).loads = w.loads := rfl
@[simp] theorem World.sendCue_out (w : World) (p : Fin 8) (bytes : List Byte) : (w.sendCue p bytes).out = { w.out with cue := w.out.cue ++ [(p, bytes)] } := rfl
@[simp] theorem World.sendStation_store (w : World) (st : Fin 6) (kind : Byte) (fields : List Byte) : (w.sendStation st kind fields).store = w.store := rfl
@[simp] theorem World.sendStation_lanes (w : World) (st : Fin 6) (kind : Byte) (fields : List Byte) : (w.sendStation st kind fields).lanes = w.lanes := rfl
@[simp] theorem World.sendStation_timing (w : World) (st : Fin 6) (kind : Byte) (fields : List Byte) : (w.sendStation st kind fields).timing = w.timing := rfl
@[simp] theorem World.sendStation_map (w : World) (st : Fin 6) (kind : Byte) (fields : List Byte) : (w.sendStation st kind fields).map = w.map := rfl
@[simp] theorem World.sendStation_rolls (w : World) (st : Fin 6) (kind : Byte) (fields : List Byte) : (w.sendStation st kind fields).rolls = w.rolls := rfl
@[simp] theorem World.sendStation_ports (w : World) (st : Fin 6) (kind : Byte) (fields : List Byte) : (w.sendStation st kind fields).ports = w.ports := rfl
@[simp] theorem World.sendStation_stations (w : World) (st : Fin 6) (kind : Byte) (fields : List Byte) : (w.sendStation st kind fields).stations = w.stations := rfl
@[simp] theorem World.sendStation_monitor (w : World) (st : Fin 6) (kind : Byte) (fields : List Byte) : (w.sendStation st kind fields).monitor = w.monitor := rfl
@[simp] theorem World.sendStation_pulse (w : World) (st : Fin 6) (kind : Byte) (fields : List Byte) : (w.sendStation st kind fields).pulse = w.pulse := rfl
@[simp] theorem World.sendStation_due (w : World) (st : Fin 6) (kind : Byte) (fields : List Byte) : (w.sendStation st kind fields).due = w.due := rfl
@[simp] theorem World.sendStation_loads (w : World) (st : Fin 6) (kind : Byte) (fields : List Byte) : (w.sendStation st kind fields).loads = w.loads := rfl
@[simp] theorem World.sendStation_out (w : World) (st : Fin 6) (kind : Byte) (fields : List Byte) : (w.sendStation st kind fields).out = { w.out with station := w.out.station ++ [(st, linkFrame kind fields)] } := rfl
@[simp] theorem World.setState_store (w : World) (l : Fin 4) : (w.setState l).store = w.store := rfl
@[simp] theorem World.setState_timing (w : World) (l : Fin 4) : (w.setState l).timing = w.timing := rfl
@[simp] theorem World.setState_map (w : World) (l : Fin 4) : (w.setState l).map = w.map := rfl
@[simp] theorem World.setState_rolls (w : World) (l : Fin 4) : (w.setState l).rolls = w.rolls := rfl
@[simp] theorem World.setState_ports (w : World) (l : Fin 4) : (w.setState l).ports = w.ports := rfl
@[simp] theorem World.setState_stations (w : World) (l : Fin 4) : (w.setState l).stations = w.stations := rfl
@[simp] theorem World.setState_monitor (w : World) (l : Fin 4) : (w.setState l).monitor = w.monitor := rfl
@[simp] theorem World.setState_pulse (w : World) (l : Fin 4) : (w.setState l).pulse = w.pulse := rfl
@[simp] theorem World.setState_due (w : World) (l : Fin 4) : (w.setState l).due = w.due := rfl
@[simp] theorem World.setState_loads (w : World) (l : Fin 4) : (w.setState l).loads = w.loads := rfl
@[simp] theorem World.setState_out (w : World) (l : Fin 4) : (w.setState l).out = w.out := rfl
@[simp] theorem World.forgetRoll_store (w : World) (r : ElemRef) : (w.forgetRoll r).store = w.store := rfl
@[simp] theorem World.forgetRoll_lanes (w : World) (r : ElemRef) : (w.forgetRoll r).lanes = w.lanes := rfl
@[simp] theorem World.forgetRoll_timing (w : World) (r : ElemRef) : (w.forgetRoll r).timing = w.timing := rfl
@[simp] theorem World.forgetRoll_map (w : World) (r : ElemRef) : (w.forgetRoll r).map = w.map := rfl
@[simp] theorem World.forgetRoll_ports (w : World) (r : ElemRef) : (w.forgetRoll r).ports = w.ports := rfl
@[simp] theorem World.forgetRoll_stations (w : World) (r : ElemRef) : (w.forgetRoll r).stations = w.stations := rfl
@[simp] theorem World.forgetRoll_monitor (w : World) (r : ElemRef) : (w.forgetRoll r).monitor = w.monitor := rfl
@[simp] theorem World.forgetRoll_pulse (w : World) (r : ElemRef) : (w.forgetRoll r).pulse = w.pulse := rfl
@[simp] theorem World.forgetRoll_due (w : World) (r : ElemRef) : (w.forgetRoll r).due = w.due := rfl
@[simp] theorem World.forgetRoll_loads (w : World) (r : ElemRef) : (w.forgetRoll r).loads = w.loads := rfl
@[simp] theorem World.forgetRoll_out (w : World) (r : ElemRef) : (w.forgetRoll r).out = w.out := rfl

/-! ### A lane, a port, a station and an entry read after an update -/

@[simp] theorem World.setLane_lane (w : World) (l l' : Fin 4) (r : LaneRec) :
    (w.setLane l r).lane l' = if l = l' then r else w.lane l' := by
  simp [World.lane, World.setLane, Tbl.get_set]

@[simp] theorem World.modLane_lane (w : World) (l l' : Fin 4) (f : LaneRec → LaneRec) :
    (w.modLane l f).lane l' = if l = l' then f (w.lane l') else w.lane l' := by
  simp only [World.modLane, World.setLane_lane]; split <;> simp_all

@[simp] theorem World.setStore_lane (w : World) (s : Store) (l' : Fin 4) : (w.setStore s).lane l' = w.lane l' := rfl
@[simp] theorem World.setPort_lane (w : World) (p : Fin 8) (r : Port) (l' : Fin 4) : (w.setPort p r).lane l' = w.lane l' := rfl
@[simp] theorem World.modPort_lane (w : World) (p : Fin 8) (f : Port → Port) (l' : Fin 4) : (w.modPort p f).lane l' = w.lane l' := rfl
@[simp] theorem World.setStation_lane (w : World) (st : Fin 6) (r : Station) (l' : Fin 4) : (w.setStation st r).lane l' = w.lane l' := rfl
@[simp] theorem World.modStation_lane (w : World) (st : Fin 6) (f : Station → Station) (l' : Fin 4) : (w.modStation st f).lane l' = w.lane l' := rfl
@[simp] theorem World.setEntry_lane (w : World) (d : Fin 64) (m : MapEntry) (l' : Fin 4) : (w.setEntry d m).lane l' = w.lane l' := rfl
@[simp] theorem World.modEntry_lane (w : World) (d : Fin 64) (f : MapEntry → MapEntry) (l' : Fin 4) : (w.modEntry d f).lane l' = w.lane l' := rfl
@[simp] theorem World.setMonitor_lane (w : World) (m : Monitor) (l' : Fin 4) : (w.setMonitor m).lane l' = w.lane l' := rfl
@[simp] theorem World.setTiming_lane (w : World) (l : Fin 4) (t : Timing) (l' : Fin 4) : (w.setTiming l t).lane l' = w.lane l' := rfl
@[simp] theorem World.setDue_lane (w : World) (l : Fin 4) (d : LaneDue) (l' : Fin 4) : (w.setDue l d).lane l' = w.lane l' := rfl
@[simp] theorem World.askRecompute_lane (w : World) (l : Fin 4) (l' : Fin 4) : (w.askRecompute l).lane l' = w.lane l' := rfl
@[simp] theorem World.modItem_lane (w : World) (k : Nat) (f : Item → Item) (l' : Fin 4) : (w.modItem k f).lane l' = w.lane l' := rfl
@[simp] theorem World.sendCue_lane (w : World) (p : Fin 8) (bytes : List Byte) (l' : Fin 4) : (w.sendCue p bytes).lane l' = w.lane l' := rfl
@[simp] theorem World.sendStation_lane (w : World) (st : Fin 6) (kind : Byte) (fields : List Byte) (l' : Fin 4) : (w.sendStation st kind fields).lane l' = w.lane l' := rfl
@[simp] theorem World.forgetRoll_lane (w : World) (r : ElemRef) (l' : Fin 4) : (w.forgetRoll r).lane l' = w.lane l' := rfl

@[simp] theorem World.modPort_port (w : World) (p p' : Fin 8) (f : Port → Port) :
    (w.modPort p f).ports.get p' = if p = p' then f (w.ports.get p') else w.ports.get p' := by
  simp only [World.modPort_ports, Tbl.get_set]; split <;> simp_all

@[simp] theorem World.modStation_station (w : World) (st st' : Fin 6) (f : Station → Station) :
    (w.modStation st f).stations.get st' = if st = st' then f (w.stations.get st') else w.stations.get st' := by
  simp only [World.modStation_stations, Tbl.get_set]; split <;> simp_all

@[simp] theorem World.modEntry_entry (w : World) (d d' : Fin 64) (f : MapEntry → MapEntry) :
    (w.modEntry d f).map.get d' = if d = d' then f (w.map.get d') else w.map.get d' := by
  simp only [World.modEntry_map, Tbl.get_set]; split <;> simp_all


/-! ### The part and the state -/

@[simp] theorem Dev.withWorld_env (d : Dev) (w : World) : (d.withWorld w).env = d.env := rfl
@[simp] theorem Dev.withWorld_world (d : Dev) (w : World) : (d.withWorld w).world = w := rfl
@[simp] theorem Dev.withRef_env (d : Dev) (r : RefUnit) : (d.withRef r).env = { d.env with ref := r } := rfl
@[simp] theorem Dev.withRef_world (d : Dev) (r : RefUnit) : (d.withRef r).world = d.world := rfl
@[simp] theorem Dev.withCfg_env (d : Dev) (c : Settings) : (d.withCfg c).env = { d.env with cfg := c } := rfl
@[simp] theorem Dev.withCfg_world (d : Dev) (c : Settings) : (d.withCfg c).world = d.world := rfl
@[simp] theorem Dev.askRecompute_env (d : Dev) (l : Fin 4) : (d.askRecompute l).env = d.env := rfl
@[simp] theorem Dev.askRecompute_world (d : Dev) (l : Fin 4) : (d.askRecompute l).world = d.world.askRecompute l := rfl
@[simp] theorem Dev.settle_env (d : Dev) : (d.settle).env = d.env := rfl
@[simp] theorem Dev.settle_world (d : Dev) : (d.settle).world = World.settle d.env d.world := rfl
@[simp] theorem State.quiet_ctl (s : State) : (s.quiet).ctl = s.ctl := rfl
@[simp] theorem State.quiet_dev (s : State) : (s.quiet).dev = s.dev.withWorld { s.dev.world with out := .quiet } := rfl
@[simp] theorem State.quiet_pins (s : State) : (s.quiet).pins = s.pins := rfl
@[simp] theorem State.quiet_free (s : State) : (s.quiet).free = s.free := rfl
@[simp] theorem State.quiet_pending (s : State) : (s.quiet).pending = s.pending := rfl
@[simp] theorem State.sdo_ctl (s : State) (bytes : List Byte) : (s.sdo bytes).ctl = s.ctl := rfl
@[simp] theorem State.sdo_pins (s : State) (bytes : List Byte) : (s.sdo bytes).pins = s.pins := rfl
@[simp] theorem State.sdo_free (s : State) (bytes : List Byte) : (s.sdo bytes).free = s.free := rfl
@[simp] theorem State.sdo_pending (s : State) (bytes : List Byte) : (s.sdo bytes).pending = s.pending := rfl
@[simp] theorem State.withWorld_ctl (s : State) (w : World) : (s.withWorld w).ctl = s.ctl := rfl
@[simp] theorem State.withWorld_dev (s : State) (w : World) : (s.withWorld w).dev = s.dev.withWorld w := rfl
@[simp] theorem State.withWorld_pins (s : State) (w : World) : (s.withWorld w).pins = s.pins := rfl
@[simp] theorem State.withWorld_free (s : State) (w : World) : (s.withWorld w).free = s.free := rfl
@[simp] theorem State.withWorld_pending (s : State) (w : World) : (s.withWorld w).pending = s.pending := rfl
@[simp] theorem State.pulseTimer_ctl (s : State) : (s.pulseTimer).ctl = s.ctl := rfl
@[simp] theorem State.pulseTimer_pins (s : State) : (s.pulseTimer).pins = s.pins := rfl
@[simp] theorem State.pulseTimer_free (s : State) : (s.pulseTimer).free = s.free := rfl
@[simp] theorem State.pulseTimer_pending (s : State) : (s.pulseTimer).pending = s.pending := rfl
@[simp] theorem State.respond_dev (s : State) (rest : List Request) (tag : Byte) (x : Dev × Status × List Byte) : (s.respond rest tag x).dev = x.1 := rfl
@[simp] theorem State.respond_pins (s : State) (rest : List Request) (tag : Byte) (x : Dev × Status × List Byte) : (s.respond rest tag x).pins = s.pins := rfl
@[simp] theorem State.respond_free (s : State) (rest : List Request) (tag : Byte) (x : Dev × Status × List Byte) : (s.respond rest tag x).free = s.free := rfl
@[simp] theorem State.respond_pending (s : State) (rest : List Request) (tag : Byte) (x : Dev × Status × List Byte) : (s.respond rest tag x).pending = s.pending := rfl
@[simp] theorem State.event_ctl (s : State) (f : Env → World → World) : (s.event f).ctl = s.ctl := rfl
@[simp] theorem State.event_pins (s : State) (f : Env → World → World) : (s.event f).pins = s.pins := rfl
@[simp] theorem State.event_free (s : State) (f : Env → World → World) : (s.event f).free = s.free := rfl
@[simp] theorem State.event_pending (s : State) (f : Env → World → World) : (s.event f).pending = s.pending := rfl
@[simp] theorem State.refEvent_ctl (s : State) (r : RefUnit) : (s.refEvent r).ctl = s.ctl := rfl
@[simp] theorem State.refEvent_pins (s : State) (r : RefUnit) : (s.refEvent r).pins = s.pins := rfl
@[simp] theorem State.refEvent_free (s : State) (r : RefUnit) : (s.refEvent r).free = s.free := rfl
@[simp] theorem State.refEvent_pending (s : State) (r : RefUnit) : (s.refEvent r).pending = s.pending := rfl
@[simp] theorem State.respond_requests (s : State) (rest : List Request) (tag : Byte) (x : Dev × Status × List Byte) :
    (s.respond rest tag x).ctl.requests = rest := rfl
@[simp] theorem State.respond_responses (s : State) (rest : List Request) (tag : Byte) (x : Dev × Status × List Byte) :
    (s.respond rest tag x).ctl.responses =
      s.ctl.responses ++ [{ tag, status := BitVec.ofNat 8 x.2.1.code, payload := x.2.2 }] := rfl
@[simp] theorem State.respond_overrun (s : State) (rest : List Request) (tag : Byte) (x : Dev × Status × List Byte) :
    (s.respond rest tag x).ctl.overrun = s.ctl.overrun := rfl
@[simp] theorem State.event_world (s : State) (f : Env → World → World) :
    (s.event f).dev.world = World.settle s.dev.env (f s.dev.env s.dev.world) := rfl
@[simp] theorem State.event_env (s : State) (f : Env → World → World) : (s.event f).dev.env = s.dev.env := rfl
@[simp] theorem State.refEvent_env (s : State) (r : RefUnit) : (s.refEvent r).dev.env = { s.dev.env with ref := r } := rfl
@[simp] theorem State.sdo_env (s : State) (bytes : List Byte) : (s.sdo bytes).dev.env = s.dev.env := rfl

/-! ### The pulse driver -/

@[simp] theorem State.drivePulse_ctl (s : State) : s.drivePulse.ctl = s.ctl := by
  unfold State.drivePulse; dsimp only; split <;> rfl
@[simp] theorem State.drivePulse_pins (s : State) : s.drivePulse.pins = s.pins := by
  unfold State.drivePulse; dsimp only; split <;> rfl
@[simp] theorem State.drivePulse_free (s : State) : s.drivePulse.free = s.free := by
  unfold State.drivePulse; dsimp only; split <;> rfl
@[simp] theorem State.drivePulse_pending (s : State) : s.drivePulse.pending = s.pending := by
  unfold State.drivePulse; dsimp only; split <;> rfl
@[simp] theorem State.drivePulse_env (s : State) : s.drivePulse.dev.env = s.dev.env := by
  unfold State.drivePulse; dsimp only; split <;> rfl
@[simp] theorem State.drivePulse_store (s : State) : s.drivePulse.dev.world.store = s.dev.world.store := by
  unfold State.drivePulse; dsimp only; split <;> rfl
@[simp] theorem State.drivePulse_lanes (s : State) : s.drivePulse.dev.world.lanes = s.dev.world.lanes := by
  unfold State.drivePulse; dsimp only; split <;> rfl
@[simp] theorem State.drivePulse_timing (s : State) : s.drivePulse.dev.world.timing = s.dev.world.timing := by
  unfold State.drivePulse; dsimp only; split <;> rfl
@[simp] theorem State.drivePulse_map (s : State) : s.drivePulse.dev.world.map = s.dev.world.map := by
  unfold State.drivePulse; dsimp only; split <;> rfl
@[simp] theorem State.drivePulse_rolls (s : State) : s.drivePulse.dev.world.rolls = s.dev.world.rolls := by
  unfold State.drivePulse; dsimp only; split <;> rfl
@[simp] theorem State.drivePulse_ports (s : State) : s.drivePulse.dev.world.ports = s.dev.world.ports := by
  unfold State.drivePulse; dsimp only; split <;> rfl
@[simp] theorem State.drivePulse_stations (s : State) : s.drivePulse.dev.world.stations = s.dev.world.stations := by
  unfold State.drivePulse; dsimp only; split <;> rfl
@[simp] theorem State.drivePulse_monitor (s : State) : s.drivePulse.dev.world.monitor = s.dev.world.monitor := by
  unfold State.drivePulse; dsimp only; split <;> rfl
@[simp] theorem State.drivePulse_due (s : State) : s.drivePulse.dev.world.due = s.dev.world.due := by
  unfold State.drivePulse; dsimp only; split <;> rfl
@[simp] theorem State.drivePulse_loads (s : State) : s.drivePulse.dev.world.loads = s.dev.world.loads := by
  unfold State.drivePulse; dsimp only; split <;> rfl
@[simp] theorem State.drivePulse_out (s : State) : s.drivePulse.dev.world.out = s.dev.world.out := by
  unfold State.drivePulse; dsimp only; split <;> rfl

/-- The pulse driver changes nothing but the pulse (R206). -/
theorem State.drivePulse_world (s : State) :
    s.drivePulse.dev.world = { s.dev.world with pulse := s.drivePulse.dev.world.pulse } := by
  unfold State.drivePulse; dsimp only; split <;> rfl

/-! ### Lane records -/

@[simp] theorem LaneRec.dropLoad_state (ref : ElemRef) (r : LaneRec) : (r.dropLoad ref).state = r.state := rfl
@[simp] theorem LaneRec.dropLoad_cursor (ref : ElemRef) (r : LaneRec) : (r.dropLoad ref).cursor = r.cursor := rfl
@[simp] theorem LaneRec.dropLoad_onAir (ref : ElemRef) (r : LaneRec) : (r.dropLoad ref).onAir = r.onAir := rfl
@[simp] theorem LaneRec.dropLoad_next (ref : ElemRef) (r : LaneRec) : (r.dropLoad ref).next = r.next := rfl
@[simp] theorem LaneRec.dropLoad_operator (ref : ElemRef) (r : LaneRec) : (r.dropLoad ref).operator = r.operator := rfl
@[simp] theorem LaneRec.dropLoad_action (ref : ElemRef) (r : LaneRec) : (r.dropLoad ref).action = r.action := rfl
@[simp] theorem LaneRec.dropLoad_gate (ref : ElemRef) (r : LaneRec) : (r.dropLoad ref).gate = r.gate := rfl
@[simp] theorem LaneRec.dropLoad_gateDue (ref : ElemRef) (r : LaneRec) : (r.dropLoad ref).gateDue = r.gateDue := rfl
@[simp] theorem LaneRec.dropLoad_lastTake (ref : ElemRef) (r : LaneRec) : (r.dropLoad ref).lastTake = r.lastTake := rfl
@[simp] theorem LaneRec.dropLoad_loadList (ref : ElemRef) (r : LaneRec) : (r.dropLoad ref).loadList = r.loadList.filter (fun x => decide (x.ref ≠ ref)) := rfl
@[simp] theorem LaneRec.dropLoad_cueList (ref : ElemRef) (r : LaneRec) : (r.dropLoad ref).cueList = r.cueList := rfl
@[simp] theorem LaneRec.dropLoad_actionLevel (ref : ElemRef) (r : LaneRec) : (r.dropLoad ref).actionLevel = r.actionLevel := rfl
@[simp] theorem LaneRec.dropLoad_fireQueue (ref : ElemRef) (r : LaneRec) : (r.dropLoad ref).fireQueue = r.fireQueue := rfl
@[simp] theorem LaneRec.dropLoad_passCount (ref : ElemRef) (r : LaneRec) : (r.dropLoad ref).passCount = r.passCount := rfl
@[simp] theorem LaneRec.dropLoad_deferred (ref : ElemRef) (r : LaneRec) : (r.dropLoad ref).deferred = r.deferred := rfl
@[simp] theorem LaneRec.dropLoad_gateTick (ref : ElemRef) (r : LaneRec) : (r.dropLoad ref).gateTick = r.gateTick := rfl
@[simp] theorem LaneRec.dropLoad_lastTick (ref : ElemRef) (r : LaneRec) : (r.dropLoad ref).lastTick = r.lastTick := rfl
@[simp] theorem LaneRec.addCue_state (ref : ElemRef) (r : LaneRec) : (r.addCue ref).state = r.state := by
  unfold LaneRec.addCue; split <;> rfl
@[simp] theorem LaneRec.addCue_cursor (ref : ElemRef) (r : LaneRec) : (r.addCue ref).cursor = r.cursor := by
  unfold LaneRec.addCue; split <;> rfl
@[simp] theorem LaneRec.addCue_onAir (ref : ElemRef) (r : LaneRec) : (r.addCue ref).onAir = r.onAir := by
  unfold LaneRec.addCue; split <;> rfl
@[simp] theorem LaneRec.addCue_next (ref : ElemRef) (r : LaneRec) : (r.addCue ref).next = r.next := by
  unfold LaneRec.addCue; split <;> rfl
@[simp] theorem LaneRec.addCue_operator (ref : ElemRef) (r : LaneRec) : (r.addCue ref).operator = r.operator := by
  unfold LaneRec.addCue; split <;> rfl
@[simp] theorem LaneRec.addCue_action (ref : ElemRef) (r : LaneRec) : (r.addCue ref).action = r.action := by
  unfold LaneRec.addCue; split <;> rfl
@[simp] theorem LaneRec.addCue_gate (ref : ElemRef) (r : LaneRec) : (r.addCue ref).gate = r.gate := by
  unfold LaneRec.addCue; split <;> rfl
@[simp] theorem LaneRec.addCue_gateDue (ref : ElemRef) (r : LaneRec) : (r.addCue ref).gateDue = r.gateDue := by
  unfold LaneRec.addCue; split <;> rfl
@[simp] theorem LaneRec.addCue_lastTake (ref : ElemRef) (r : LaneRec) : (r.addCue ref).lastTake = r.lastTake := by
  unfold LaneRec.addCue; split <;> rfl
@[simp] theorem LaneRec.addCue_loadList (ref : ElemRef) (r : LaneRec) : (r.addCue ref).loadList = r.loadList := by
  unfold LaneRec.addCue; split <;> rfl
@[simp] theorem LaneRec.addCue_actionLevel (ref : ElemRef) (r : LaneRec) : (r.addCue ref).actionLevel = r.actionLevel := by
  unfold LaneRec.addCue; split <;> rfl
@[simp] theorem LaneRec.addCue_fireQueue (ref : ElemRef) (r : LaneRec) : (r.addCue ref).fireQueue = r.fireQueue := by
  unfold LaneRec.addCue; split <;> rfl
@[simp] theorem LaneRec.addCue_passCount (ref : ElemRef) (r : LaneRec) : (r.addCue ref).passCount = r.passCount := by
  unfold LaneRec.addCue; split <;> rfl
@[simp] theorem LaneRec.addCue_deferred (ref : ElemRef) (r : LaneRec) : (r.addCue ref).deferred = r.deferred := by
  unfold LaneRec.addCue; split <;> rfl
@[simp] theorem LaneRec.addCue_gateTick (ref : ElemRef) (r : LaneRec) : (r.addCue ref).gateTick = r.gateTick := by
  unfold LaneRec.addCue; split <;> rfl
@[simp] theorem LaneRec.addCue_lastTick (ref : ElemRef) (r : LaneRec) : (r.addCue ref).lastTick = r.lastTick := by
  unfold LaneRec.addCue; split <;> rfl
@[simp] theorem LaneRec.dropCue_state (ref : ElemRef) (r : LaneRec) : (r.dropCue ref).state = r.state := rfl
@[simp] theorem LaneRec.dropCue_cursor (ref : ElemRef) (r : LaneRec) : (r.dropCue ref).cursor = r.cursor := rfl
@[simp] theorem LaneRec.dropCue_onAir (ref : ElemRef) (r : LaneRec) : (r.dropCue ref).onAir = r.onAir := rfl
@[simp] theorem LaneRec.dropCue_next (ref : ElemRef) (r : LaneRec) : (r.dropCue ref).next = r.next := rfl
@[simp] theorem LaneRec.dropCue_operator (ref : ElemRef) (r : LaneRec) : (r.dropCue ref).operator = r.operator := rfl
@[simp] theorem LaneRec.dropCue_action (ref : ElemRef) (r : LaneRec) : (r.dropCue ref).action = r.action := rfl
@[simp] theorem LaneRec.dropCue_gate (ref : ElemRef) (r : LaneRec) : (r.dropCue ref).gate = r.gate := rfl
@[simp] theorem LaneRec.dropCue_gateDue (ref : ElemRef) (r : LaneRec) : (r.dropCue ref).gateDue = r.gateDue := rfl
@[simp] theorem LaneRec.dropCue_lastTake (ref : ElemRef) (r : LaneRec) : (r.dropCue ref).lastTake = r.lastTake := rfl
@[simp] theorem LaneRec.dropCue_loadList (ref : ElemRef) (r : LaneRec) : (r.dropCue ref).loadList = r.loadList := rfl
@[simp] theorem LaneRec.dropCue_cueList (ref : ElemRef) (r : LaneRec) : (r.dropCue ref).cueList = r.cueList.filter (fun x => decide (x ≠ ref)) := rfl
@[simp] theorem LaneRec.dropCue_actionLevel (ref : ElemRef) (r : LaneRec) : (r.dropCue ref).actionLevel = r.actionLevel := rfl
@[simp] theorem LaneRec.dropCue_fireQueue (ref : ElemRef) (r : LaneRec) : (r.dropCue ref).fireQueue = r.fireQueue := rfl
@[simp] theorem LaneRec.dropCue_passCount (ref : ElemRef) (r : LaneRec) : (r.dropCue ref).passCount = r.passCount := rfl
@[simp] theorem LaneRec.dropCue_deferred (ref : ElemRef) (r : LaneRec) : (r.dropCue ref).deferred = r.deferred := rfl
@[simp] theorem LaneRec.dropCue_gateTick (ref : ElemRef) (r : LaneRec) : (r.dropCue ref).gateTick = r.gateTick := rfl
@[simp] theorem LaneRec.dropCue_lastTick (ref : ElemRef) (r : LaneRec) : (r.dropCue ref).lastTick = r.lastTick := rfl
@[simp] theorem LaneRec.defer_state (d : Fin 64) (r : LaneRec) : (r.defer d).state = r.state := by
  unfold LaneRec.defer; split <;> rfl
@[simp] theorem LaneRec.defer_cursor (d : Fin 64) (r : LaneRec) : (r.defer d).cursor = r.cursor := by
  unfold LaneRec.defer; split <;> rfl
@[simp] theorem LaneRec.defer_onAir (d : Fin 64) (r : LaneRec) : (r.defer d).onAir = r.onAir := by
  unfold LaneRec.defer; split <;> rfl
@[simp] theorem LaneRec.defer_next (d : Fin 64) (r : LaneRec) : (r.defer d).next = r.next := by
  unfold LaneRec.defer; split <;> rfl
@[simp] theorem LaneRec.defer_operator (d : Fin 64) (r : LaneRec) : (r.defer d).operator = r.operator := by
  unfold LaneRec.defer; split <;> rfl
@[simp] theorem LaneRec.defer_action (d : Fin 64) (r : LaneRec) : (r.defer d).action = r.action := by
  unfold LaneRec.defer; split <;> rfl
@[simp] theorem LaneRec.defer_gate (d : Fin 64) (r : LaneRec) : (r.defer d).gate = r.gate := by
  unfold LaneRec.defer; split <;> rfl
@[simp] theorem LaneRec.defer_gateDue (d : Fin 64) (r : LaneRec) : (r.defer d).gateDue = r.gateDue := by
  unfold LaneRec.defer; split <;> rfl
@[simp] theorem LaneRec.defer_lastTake (d : Fin 64) (r : LaneRec) : (r.defer d).lastTake = r.lastTake := by
  unfold LaneRec.defer; split <;> rfl
@[simp] theorem LaneRec.defer_loadList (d : Fin 64) (r : LaneRec) : (r.defer d).loadList = r.loadList := by
  unfold LaneRec.defer; split <;> rfl
@[simp] theorem LaneRec.defer_cueList (d : Fin 64) (r : LaneRec) : (r.defer d).cueList = r.cueList := by
  unfold LaneRec.defer; split <;> rfl
@[simp] theorem LaneRec.defer_actionLevel (d : Fin 64) (r : LaneRec) : (r.defer d).actionLevel = r.actionLevel := by
  unfold LaneRec.defer; split <;> rfl
@[simp] theorem LaneRec.defer_fireQueue (d : Fin 64) (r : LaneRec) : (r.defer d).fireQueue = r.fireQueue := by
  unfold LaneRec.defer; split <;> rfl
@[simp] theorem LaneRec.defer_passCount (d : Fin 64) (r : LaneRec) : (r.defer d).passCount = r.passCount := by
  unfold LaneRec.defer; split <;> rfl
@[simp] theorem LaneRec.defer_gateTick (d : Fin 64) (r : LaneRec) : (r.defer d).gateTick = r.gateTick := by
  unfold LaneRec.defer; split <;> rfl
@[simp] theorem LaneRec.defer_lastTick (d : Fin 64) (r : LaneRec) : (r.defer d).lastTick = r.lastTick := by
  unfold LaneRec.defer; split <;> rfl
@[simp] theorem LaneRec.undefer_state (d : Fin 64) (r : LaneRec) : (r.undefer d).state = r.state := rfl
@[simp] theorem LaneRec.undefer_cursor (d : Fin 64) (r : LaneRec) : (r.undefer d).cursor = r.cursor := rfl
@[simp] theorem LaneRec.undefer_onAir (d : Fin 64) (r : LaneRec) : (r.undefer d).onAir = r.onAir := rfl
@[simp] theorem LaneRec.undefer_next (d : Fin 64) (r : LaneRec) : (r.undefer d).next = r.next := rfl
@[simp] theorem LaneRec.undefer_operator (d : Fin 64) (r : LaneRec) : (r.undefer d).operator = r.operator := rfl
@[simp] theorem LaneRec.undefer_action (d : Fin 64) (r : LaneRec) : (r.undefer d).action = r.action := rfl
@[simp] theorem LaneRec.undefer_gate (d : Fin 64) (r : LaneRec) : (r.undefer d).gate = r.gate := rfl
@[simp] theorem LaneRec.undefer_gateDue (d : Fin 64) (r : LaneRec) : (r.undefer d).gateDue = r.gateDue := rfl
@[simp] theorem LaneRec.undefer_lastTake (d : Fin 64) (r : LaneRec) : (r.undefer d).lastTake = r.lastTake := rfl
@[simp] theorem LaneRec.undefer_loadList (d : Fin 64) (r : LaneRec) : (r.undefer d).loadList = r.loadList := rfl
@[simp] theorem LaneRec.undefer_cueList (d : Fin 64) (r : LaneRec) : (r.undefer d).cueList = r.cueList := rfl
@[simp] theorem LaneRec.undefer_actionLevel (d : Fin 64) (r : LaneRec) : (r.undefer d).actionLevel = r.actionLevel := rfl
@[simp] theorem LaneRec.undefer_fireQueue (d : Fin 64) (r : LaneRec) : (r.undefer d).fireQueue = r.fireQueue := rfl
@[simp] theorem LaneRec.undefer_passCount (d : Fin 64) (r : LaneRec) : (r.undefer d).passCount = r.passCount := rfl
@[simp] theorem LaneRec.undefer_deferred (d : Fin 64) (r : LaneRec) : (r.undefer d).deferred = r.deferred.filter (fun x => decide (x ≠ d)) := rfl
@[simp] theorem LaneRec.undefer_gateTick (d : Fin 64) (r : LaneRec) : (r.undefer d).gateTick = r.gateTick := rfl
@[simp] theorem LaneRec.undefer_lastTick (d : Fin 64) (r : LaneRec) : (r.undefer d).lastTick = r.lastTick := rfl

/-- An entry stands among those whose LOAD is deferred once it has been put there, with those that stood there before (R148). -/
@[simp] theorem LaneRec.mem_defer (d x : Fin 64) (r : LaneRec) : x ∈ (r.defer d).deferred ↔ x ∈ r.deferred ∨ x = d := by
  unfold LaneRec.defer
  split
  · next h => exact ⟨.inl, fun hx => hx.elim id (fun e => e ▸ by simpa using h)⟩
  · simp

/-- A cue stands in the cue list once it has been added, with those that stood there before (R101). -/
@[simp] theorem LaneRec.mem_addCue (ref x : ElemRef) (r : LaneRec) : x ∈ (r.addCue ref).cueList ↔ x ∈ r.cueList ∨ x = ref := by
  unfold LaneRec.addCue
  split
  · next h => exact ⟨.inl, fun hx => hx.elim id (fun e => e ▸ by simpa using h)⟩
  · simp

/-! ### Element records -/

@[simp] theorem Element.unload_ref (el : Element) : (el.unload).ref = el.ref := rfl
@[simp] theorem Element.unload_content (el : Element) : (el.unload).content = el.content := rfl
@[simp] theorem Element.unload_offset (el : Element) : (el.unload).offset = el.offset := rfl
@[simp] theorem Element.unload_fire (el : Element) : (el.unload).fire = el.fire := rfl
@[simp] theorem Element.unload_load (el : Element) : (el.unload).load = .unloaded := rfl
@[simp] theorem Element.unload_loadTarget (el : Element) : (el.unload).loadTarget = none := rfl
@[simp] theorem Element.unload_loadFailure (el : Element) : (el.unload).loadFailure = none := rfl
@[simp] theorem Element.unload_failReason (el : Element) : (el.unload).failReason = el.failReason := rfl
@[simp] theorem Element.unload_late (el : Element) : (el.unload).late = el.late := rfl
@[simp] theorem Element.unload_pass (el : Element) : (el.unload).pass = el.pass := rfl
@[simp] theorem Element.unload_shift (el : Element) : (el.unload).shift = el.shift := rfl
@[simp] theorem Element.fail_ref (x : FailReason) (el : Element) : (el.fail x).ref = el.ref := rfl
@[simp] theorem Element.fail_content (x : FailReason) (el : Element) : (el.fail x).content = el.content := rfl
@[simp] theorem Element.fail_offset (x : FailReason) (el : Element) : (el.fail x).offset = el.offset := rfl
@[simp] theorem Element.fail_fire (x : FailReason) (el : Element) : (el.fail x).fire = .failed := rfl
@[simp] theorem Element.fail_load (x : FailReason) (el : Element) : (el.fail x).load = el.load := rfl
@[simp] theorem Element.fail_loadTarget (x : FailReason) (el : Element) : (el.fail x).loadTarget = el.loadTarget := rfl
@[simp] theorem Element.fail_loadFailure (x : FailReason) (el : Element) : (el.fail x).loadFailure = el.loadFailure := rfl
@[simp] theorem Element.fail_failReason (x : FailReason) (el : Element) : (el.fail x).failReason = some x := rfl
@[simp] theorem Element.fail_late (x : FailReason) (el : Element) : (el.fail x).late = el.late := rfl
@[simp] theorem Element.fail_pass (x : FailReason) (el : Element) : (el.fail x).pass = el.pass := rfl
@[simp] theorem Element.fail_shift (x : FailReason) (el : Element) : (el.fail x).shift = el.shift := rfl
@[simp] theorem Element.await_ref (el : Element) : (el.await).ref = el.ref := rfl
@[simp] theorem Element.await_content (el : Element) : (el.await).content = el.content := rfl
@[simp] theorem Element.await_offset (el : Element) : (el.await).offset = el.offset := rfl
@[simp] theorem Element.await_fire (el : Element) : (el.await).fire = .waiting := rfl
@[simp] theorem Element.await_load (el : Element) : (el.await).load = el.load := rfl
@[simp] theorem Element.await_loadTarget (el : Element) : (el.await).loadTarget = el.loadTarget := rfl
@[simp] theorem Element.await_loadFailure (el : Element) : (el.await).loadFailure = el.loadFailure := rfl
@[simp] theorem Element.await_failReason (el : Element) : (el.await).failReason = none := rfl
@[simp] theorem Element.await_late (el : Element) : (el.await).late = el.late := rfl
@[simp] theorem Element.await_pass (el : Element) : (el.await).pass = el.pass := rfl
@[simp] theorem Element.await_shift (el : Element) : (el.await).shift = el.shift := rfl
@[simp] theorem Element.loadFail_ref (x : LoadFailure) (el : Element) : (el.loadFail x).ref = el.ref := rfl
@[simp] theorem Element.loadFail_content (x : LoadFailure) (el : Element) : (el.loadFail x).content = el.content := rfl
@[simp] theorem Element.loadFail_offset (x : LoadFailure) (el : Element) : (el.loadFail x).offset = el.offset := rfl
@[simp] theorem Element.loadFail_fire (x : LoadFailure) (el : Element) : (el.loadFail x).fire = el.fire := rfl
@[simp] theorem Element.loadFail_load (x : LoadFailure) (el : Element) : (el.loadFail x).load = .loadFailed := rfl
@[simp] theorem Element.loadFail_loadTarget (x : LoadFailure) (el : Element) : (el.loadFail x).loadTarget = el.loadTarget := rfl
@[simp] theorem Element.loadFail_loadFailure (x : LoadFailure) (el : Element) : (el.loadFail x).loadFailure = some x := rfl
@[simp] theorem Element.loadFail_failReason (x : LoadFailure) (el : Element) : (el.loadFail x).failReason = el.failReason := rfl
@[simp] theorem Element.loadFail_late (x : LoadFailure) (el : Element) : (el.loadFail x).late = el.late := rfl
@[simp] theorem Element.loadFail_pass (x : LoadFailure) (el : Element) : (el.loadFail x).pass = el.pass := rfl
@[simp] theorem Element.loadFail_shift (x : LoadFailure) (el : Element) : (el.loadFail x).shift = el.shift := rfl

end Sys2Proof.Machine
end

