-- ==== Sys2Proof/Laws/Working.lean ====
section
/-! SUPPORT. What the working of the blocks can do to the part. `Working P` says that a property `P` of the world is kept by each
elementary change that sending, firing, arming and showing cues make; for such a property there is one lemma for each shared
operation, so that a frame or an invariant is proved from the elementary changes alone. -/
namespace Sys2Proof.Machine

/-- `P` is kept by the elementary changes of the blocks' working: a lane's lists, the operating fields of an element, the queues of
a port, the slots of a station, a map entry's active side and claim, last rolls, what is due, and what is sent. -/
structure Working (P : World → Prop) : Prop where
  lane : ∀ {w} l r, P w → r.standing = (w.lane l).standing → P (w.setLane l r)
  elems : ∀ {w} (f : Item → Item), P w → (∀ it, f it = { it with elements := (f it).elements }) →
    (∀ it, (f it).elements.map Element.renew = it.elements.map Element.renew) →
    P (w.setStore { w.store with items := w.store.items.map f })
  port : ∀ {w} p r, P w → r.standing = (w.ports.get p).standing → ((w.ports.get p).Ok → r.Ok) → P (w.setPort p r)
  station : ∀ {w} st r, P w → r.standing = (w.stations.get st).standing → P (w.setStation st r)
  entry : ∀ {w} d m, P w → m.service = (w.map.get d).service → ((w.map.get d).Ok → m.Ok) → P (w.setEntry d m)
  rolls : ∀ {w} (r : Tbl 64 (Option Owner)), P w → P { w with rolls := r }
  due : ∀ {w} l d, P w → P (w.setDue l d)
  loads : ∀ {w} n, P w → P { w with loads := n }
  out : ∀ {w} (o : Out), P w → o.sdo = w.out.sdo → P { w with out := o }

variable {P : World → Prop} (h : Working P)
include h

/-! ### Elementary changes as the operations write them -/

omit h in
theorem Working.foldl {α : Type} (f : World → α → World) (hf : ∀ w a, P w → P (f w a)) (xs : List α) {w : World} (hw : P w) :
    P (xs.foldl f w) := by
  induction xs generalizing w with
  | nil => exact hw
  | cons a rest ih => exact ih (hf _ _ hw)

theorem Working.modLane {w : World} (l : Fin 4) (f : LaneRec → LaneRec) (hf : ∀ r, (f r).standing = r.standing) (hw : P w) :
    P (w.modLane l f) := h.lane l _ hw (hf _)

theorem Working.modStation {w : World} (st : Fin 6) (f : Station → Station) (hf : ∀ r, (f r).standing = r.standing) (hw : P w) :
    P (w.modStation st f) := h.station st _ hw (hf _)

theorem Working.modQueue {w : World} (l : Fin 4) (f : List FireEntry → List FireEntry) (hw : P w) : P (w.modQueue l f) :=
  h.modLane l _ (fun _ => rfl) hw

theorem Working.dropEntry {w : World} (l : Fin 4) (ref : ElemRef) (hw : P w) : P (w.dropEntry l ref) := h.modQueue l _ hw

theorem Working.dropLoad {w : World} (l : Fin 4) (ref : ElemRef) (hw : P w) : P (w.modLane l (LaneRec.dropLoad ref)) :=
  h.modLane l _ (fun _ => rfl) hw

theorem Working.dropCue {w : World} (l : Fin 4) (ref : ElemRef) (hw : P w) : P (w.modLane l (LaneRec.dropCue ref)) :=
  h.modLane l _ (fun _ => rfl) hw

theorem Working.addCue {w : World} (l : Fin 4) (ref : ElemRef) (hw : P w) : P (w.modLane l (LaneRec.addCue ref)) :=
  h.modLane l _ (fun r => by unfold LaneRec.addCue; split <;> rfl) hw

theorem Working.defer {w : World} (l : Fin 4) (d : Fin 64) (hw : P w) : P (w.modLane l (LaneRec.defer d)) :=
  h.modLane l _ (fun r => by unfold LaneRec.defer; split <;> rfl) hw

theorem Working.undefer {w : World} (l : Fin 4) (d : Fin 64) (hw : P w) : P (w.modLane l (LaneRec.undefer d)) :=
  h.modLane l _ (fun _ => rfl) hw

theorem Working.sendCue {w : World} (p : Fin 8) (bytes : List Byte) (hw : P w) : P (w.sendCue p bytes) := h.out _ hw rfl

theorem Working.sendStation {w : World} (st : Fin 6) (kind : Byte) (fields : List Byte) (hw : P w) :
    P (w.sendStation st kind fields) := h.out _ hw rfl

theorem Working.askRecompute {w : World} (l : Fin 4) (hw : P w) : P (w.askRecompute l) := h.due _ _ hw

theorem Working.forgetRoll {w : World} (r : ElemRef) (hw : P w) : P (w.forgetRoll r) := h.rolls _ hw

theorem Working.modElem {w : World} (r : ElemRef) (f : Element → Element) (hf : ∀ el, (f el).renew = el.renew) (hw : P w) :
    P (w.modElem r f) := by
  unfold World.modElem
  split
  · exact hw
  · have h1 : P (w.setStore (w.store.modElem r f)) := by
      refine h.elems _ hw ?_ ?_
      · intro it; split <;> rfl
      · intro it
        split
        · simp only [modElems, List.map_map]
          refine List.map_congr_left (fun el _ => ?_)
          simp only [Function.comp]; split <;> simp [hf]
        · rfl
    split
    · exact h.due _ _ h1
    · exact h1

theorem Working.modElements {w : World} (k : Nat) (f : Element → Element) (hf : ∀ el, (f el).renew = el.renew) (hw : P w) :
    P (w.modElements k f) := by
  unfold World.modElements
  split
  · exact hw
  · exact Working.foldl _ (fun w el hw => h.modElem _ f hf hw) _ hw

/-! ### Ports -/

end Sys2Proof.Machine
end

