-- ==== Sys2Proof/Laws/PortLaws.lean ====
section
/-! SUPPORT. The queues and the window of a port: what picking, transmitting and taking a message leave (R162 to R165), and the
look for a frame's start byte (R211). -/
namespace Sys2Proof.Machine

/-- Bytes before the first start byte are passed over, and the start byte stays (R211). -/
theorem fromStart_append (before rest : List Byte) (h : startByte ∉ before) :
    fromStart (before ++ startByte :: rest) = startByte :: rest := by
  rw [fromStart, List.dropWhile_append_of_pos (by
    intro b hb
    simpa using fun hs : b = startByte => h (hs ▸ hb))]
  simp

/-- What the look for the start byte leaves of the bytes: nothing, or a run that begins with it, after bytes without one (R211). -/
theorem fromStart_cases (bytes : List Byte) :
    ∃ before, startByte ∉ before ∧ bytes = before ++ fromStart bytes ∧
      (fromStart bytes = [] ∨ ∃ rest, fromStart bytes = startByte :: rest) := by
  induction bytes with
  | nil => exact ⟨[], by simp [fromStart]⟩
  | cons b bs ih =>
    by_cases hb : b = startByte
    · subst hb
      exact ⟨[], by simp [fromStart]⟩
    · obtain ⟨before, hn, hbs, ht⟩ := ih
      have hf : fromStart (b :: bs) = fromStart bs := by simp [fromStart, hb]
      exact ⟨b :: before, by simp [hn, Ne.symm hb], by rw [hf, List.cons_append, ← hbs], hf ▸ ht⟩

/-- With room in the window, the seq given is held by no outstanding record (R165). -/
theorem Port.freeSeq_free (p : Port) (hw : p.window.length < 4) (s : BitVec 8) : p.holdsSeq (p.freeSeq 4 s) = false := by
  by_contra hne
  have hall : ∀ x ∈ [s, s + 1, s + 1 + 1, s + 1 + 1 + 1], x ∈ p.window.map (·.seq) := by
    have held : ∀ x, p.holdsSeq x = true → x ∈ p.window.map (·.seq) := by
      intro x hx
      simpa [Port.holdsSeq] using hx
    simp only [Port.freeSeq] at hne
    intro x hx
    simp only [List.mem_cons, List.not_mem_nil, or_false] at hx
    split at hne
    · split at hne
      · split at hne
        · split at hne
          · rcases hx with rfl | rfl | rfl | rfl <;> exact held _ ‹_›
          · simp_all
        · simp_all
      · simp_all
    · simp_all
  have hnd : [s, s + 1, s + 1 + 1, s + 1 + 1 + 1].Nodup := by
    simp only [List.nodup_cons, List.mem_cons, List.not_mem_nil, or_false, not_or, List.nodup_nil, and_true,
      not_false_eq_true]
    bv_omega
  have := (List.subperm_of_subset hnd hall).length_le
  simp at this
  omega

/-- What the arbiter picks, and the port without it (R164). -/
theorem Port.pick_standing {p : Port} {c : PortCfg} {m : CueMsg} {o : Option Owner} {q : Port}
    (h : p.pick c = some (m, o, q)) : q.standing = p.standing ∧ q.window = p.window := by
  unfold Port.pick at h
  split at h
  · cases h
  · split at h
    · cases h
    · cases h; exact ⟨rfl, rfl⟩
  · split at h
    · cases h; exact ⟨rfl, rfl⟩
    · split at h
      · cases h
      · split at h
        · cases h
        · cases h; exact ⟨rfl, rfl⟩

/-- A port in good order is in good order without the message picked (R164). -/
theorem Port.pick_ok {p : Port} {c : PortCfg} {m : CueMsg} {o : Option Owner} {q : Port}
    (h : p.pick c = some (m, o, q)) (hp : p.Ok) : q.Ok := by
  obtain ⟨h1, h2, h3, h4, h5, h6, h7, h8, h9, h10⟩ := hp
  unfold Port.pick at h
  split at h
  · cases h
  · rename_i hs
    split at h
    · cases h
    · rename_i x rest hq
      cases h
      have := h8 hs
      refine ⟨h1, by simp_all, h3, h4, h5, h6, by simp_all, ?_, by simp_all, h10⟩
      intro _; left; simp_all
  · rename_i hs
    split at h
    · rename_i x rest hq
      cases h
      have := h7 hs
      refine ⟨h1, by simp_all; omega, h3, h4, h5, h6, by simp_all, by simp_all, by simp_all, h10⟩
    · split at h
      · cases h
      · split at h
        · cases h
        · rename_i l hl x rest hq
          cases h
          refine ⟨?_, h2, h3, h4, h5, by simp_all, h7, h8, h9, h10⟩
          intro l'
          have := h1 l'
          simp only [Tbl.get_set]
          split
          · subst_vars; rw [hq] at this; simp at this; omega
          · exact this

/-- A transmission: the message picked takes a record of the window under a free seq (R165). -/
theorem Port.transmit_ok {q : Port} (hq : q.Ok) (hs : q.state ≠ .down) (hw : q.window.length < 4) (m : CueMsg)
    (o : Option Owner) (now : Fc) :
    Port.Ok { q with window := q.window ++ [{ seq := q.freeSeq 4 q.nextSeq, msg := m, owner := o, sent := now }]
                     nextSeq := q.freeSeq 4 q.nextSeq + 1 } := by
  obtain ⟨h1, h2, h3, h4, h5, h6, h7, h8, h9, h10⟩ := hq
  have hf := Port.freeSeq_free q hw q.nextSeq
  refine ⟨h1, h2, by simp; omega, h4, ?_, h6, h7, h8, fun h => absurd h hs, h10⟩
  simp only [List.map_append, List.map_cons, List.map_nil, List.nodup_append]
  refine ⟨h5, by simp, ?_⟩
  intro a ha b hb
  simp only [List.mem_cons, List.not_mem_nil, or_false] at hb
  subst hb
  rintro rfl
  simp only [Port.holdsSeq, List.any_eq_false, decide_eq_true_eq] at hf
  obtain ⟨x, hx, hxe⟩ := List.mem_map.1 ha
  exact hf x hx hxe

/-- A picked message leaves a port that is not DOWN. -/
theorem Port.pick_up {p : Port} {c : PortCfg} {m : CueMsg} {o : Option Owner} {q : Port}
    (h : p.pick c = some (m, o, q)) : q.state ≠ .down := by
  unfold Port.pick at h
  split at h
  · cases h
  · split at h
    · cases h
    · cases h; simp_all
  · split at h
    · cases h; simp_all
    · split at h
      · cases h
      · split at h
        · cases h
        · cases h; simp_all

variable {P : World → Prop} (h : Working P)
include h

theorem Working.arbiterRun (e : Env) (p : Fin 8) (n : Nat) {w : World} (hw : P w) : P (World.arbiterRun e p n w) := by
  induction n generalizing w with
  | zero => exact hw
  | succ n ih =>
    unfold World.arbiterRun
    dsimp only
    split
    · exact hw
    · rename_i hlen
      split
      · exact hw
      · rename_i m o q hp
        refine ih (h.sendCue _ _ (h.port _ _ hw ?_ ?_))
        · exact (Port.pick_standing hp).1
        · intro hok
          have hwin : q.window.length < 4 := by
            rw [(Port.pick_standing hp).2]
            exact Nat.lt_of_not_le hlen
          exact Port.transmit_ok (Port.pick_ok hp hok) (Port.pick_up hp) hwin m o e.now

theorem Working.arbiter (e : Env) (p : Fin 8) {w : World} (hw : P w) : P (World.arbiter e w p) := h.arbiterRun e p _ hw

theorem Working.submit (e : Env) (p : Fin 8) (m : CueMsg) (o : Owner) {w : World} (hw : P w) :
    P (World.submit e w p m o).1 := by
  unfold World.submit
  dsimp only
  split
  · exact hw
  · rename_i hs
    split
    · exact hw
    · rename_i hlen
      refine h.arbiter e p (h.port _ _ hw rfl ?_)
      rintro ⟨h1, h2, h3, h4, h5, h6, h7, h8, h9, h10⟩
      refine ⟨?_, h2, h3, h4, h5, fun h => absurd h hs, h7, h8, h9, h10⟩
      intro l
      simp only [Tbl.get_modify]
      split
      · subst_vars
        simp only [List.length_append, List.length_cons, List.length_nil]
        have : ¬ Config.portQueueSize ≤ _ := hlen
        simp only [Config.portQueueSize] at this
        omega
      · exact h1 l

theorem Working.submitSafe (e : Env) (t : Target) {w : World} (hw : P w) : P (World.submitSafe e w t) := by
  unfold World.submitSafe
  dsimp only
  split
  · rename_i hc
    refine h.arbiter e _ (h.port _ _ hw rfl ?_)
    rintro ⟨h1, h2, h3, h4, h5, h6, h7, h8, h9, h10⟩
    refine ⟨h1, ?_, h3, h4, h5, h6, ?_, by simp_all, by simp_all, h10⟩
    · have := hc.2
      simp only [Config.prioritySlotSize] at this
      simp only [List.length_append, List.length_cons, List.length_nil]
      omega
    · intro hs
      simpa using h7 hs
  · exact hw

end Sys2Proof.Machine
end

