-- ==== Sys2Proof/Laws/StationLaws.lean ====
section
/-! SUPPORT. The Station Unit's operations are made of elementary changes (R181 to R185). -/
namespace Sys2Proof.Machine

variable {P : World → Prop} (h : Working P)
include h

theorem Working.showStandby (e : Env) (st : Fin 6) (r : StandbyReq) {w : World} (hw : P w) :
    P (World.showStandby e w st r) :=
  h.sendStation _ _ _ (h.modStation _ _ (fun _ => rfl) hw)

theorem Working.fillStandby (e : Env) (st : Fin 6) {w : World} (hw : P w) : P (World.fillStandby e w st) := by
  unfold World.fillStandby
  dsimp only
  split
  · exact hw
  · split
    · exact hw
    · exact h.showStandby e _ _ (h.modStation _ _ (fun _ => rfl) hw)

theorem Working.handDistance (e : Env) (st : Fin 6) (ref : ElemRef) (d : Int) {w : World} (hw : P w) :
    P (World.handDistance e w st ref d) := by
  unfold World.handDistance
  dsimp only
  split
  · split
    · split
      · exact h.sendStation _ _ _ (h.modStation _ _ (fun _ => rfl) hw)
      · exact h.modStation _ _ (fun _ => rfl) hw
    · exact h.modStation _ _ (fun _ => rfl) hw
  · exact h.modStation _ _ (fun _ => rfl) hw

theorem Working.askStandby (e : Env) (l : Fin 4) (st : Fin 6) (key : Nat) (ref : ElemRef) (label : List Byte) (d : Int)
    {w : World} (hw : P w) : P (World.askStandby e w l st key ref label d).1 := by
  unfold World.askStandby
  dsimp only
  split
  · exact hw
  · split
    · exact hw
    · split
      · exact h.handDistance e _ _ _ hw
      · have h1 : P (if (w.stations.get st).holdsGo ref = true then
            (w.modStation st (fun s => { s with go := none })).sendClearGo st else w) := by
          split
          · exact h.sendStation _ _ _ (h.modStation _ _ (fun _ => rfl) hw)
          · exact hw
        split
        · exact h.showStandby e _ _ h1
        · exact h.modStation st (fun s => { s with waiting := s.waiting ++
            [{ lane := l, key, ref, label, distance := d, handed := e.now }] }) (fun _ => rfl) h1

theorem Working.clearCues (e : Env) (st : Fin 6) (p : Fin 4 → ElemRef → Bool) (go : Bool) {w : World} (hw : P w) :
    P (World.clearCues e w st p go) := by
  unfold World.clearCues
  dsimp only
  have h1 : P (w.modStation st (fun s => { s with waiting := s.waiting.filter (fun r => !(p r.lane r.ref)) })) :=
    h.modStation _ _ (fun _ => rfl) hw
  split
  · split
    · exact h.sendStation _ _ _ (h.modStation _ _ (fun _ => rfl)
        (by split
            · split
              · exact h.fillStandby e _ (h.sendStation _ _ _ (h.modStation _ _ (fun _ => rfl) h1))
              · exact h1
            · exact h1))
    · split
      · split
        · exact h.fillStandby e _ (h.sendStation _ _ _ (h.modStation _ _ (fun _ => rfl) h1))
        · exact h1
      · exact h1
  · split
    · split
      · exact h.fillStandby e _ (h.sendStation _ _ _ (h.modStation _ _ (fun _ => rfl) h1))
      · exact h1
    · exact h1

theorem Working.clearCue (e : Env) (st : Fin 6) (ref : ElemRef) (go : Bool) {w : World} (hw : P w) :
    P (World.clearCue e w st ref go) := h.clearCues e _ _ _ hw

theorem Working.clearCueEverywhere (e : Env) (ref : ElemRef) {w : World} (hw : P w) :
    P (World.clearCueEverywhere e w ref) := Working.foldl _ (fun _ _ hw => h.clearCue e _ _ _ hw) _ hw

theorem Working.clearItemCues (e : Env) (item : Ref) (go : Bool) {w : World} (hw : P w) :
    P (World.clearItemCues e w item go) := Working.foldl _ (fun _ _ hw => h.clearCues e _ _ _ hw) _ hw

theorem Working.clearLaneCues (e : Env) (l : Fin 4) {w : World} (hw : P w) : P (World.clearLaneCues e w l) :=
  Working.foldl _ (fun _ _ hw => h.clearCues e _ _ _ hw) _ hw

theorem Working.giveGo (e : Env) (l : Fin 4) (st : Fin 6) (key : Nat) (ref : ElemRef) (label : List Byte) {w : World}
    (hw : P w) : P (World.giveGo e w l st key ref label).1 := by
  unfold World.giveGo
  dsimp only
  split
  · exact hw
  · split
    · exact hw
    · refine h.fillStandby e _ (h.sendStation _ _ _ (h.modStation _ _ (fun _ => rfl) ?_))
      split
      · split
        · exact h.sendStation _ _ _ (h.modStation _ _ (fun _ => rfl) hw)
        · exact hw
      · exact hw

end Sys2Proof.Machine
end

