-- ==== Sys2Proof/Laws/RouterLaws.lean ====
section
/-! SUPPORT. The Device Router's operations are made of elementary changes (R143 to R154), and keep a map entry in good order
(R146). -/
namespace Sys2Proof.Machine

theorem Tbl.set_set {n : Nat} {α : Type} (t : Tbl n α) (i : Fin n) (a b : α) : (t.set i a).set i b = t.set i b := by
  simp [Tbl.set]

theorem World.setEntry_setEntry (w : World) (d : Fin 64) (a b : MapEntry) : (w.setEntry d a).setEntry d b = w.setEntry d b := by
  simp [World.setEntry, Tbl.set_set]

variable {P : World → Prop} (h : Working P)
include h

theorem Working.loadFail (f : LoadFailure) (t : Option Target) (ref : ElemRef) {w : World} (hw : P w) :
    P (w.modElem ref (fun x => Element.loadFail f { x with loadTarget := t })) :=
  h.modElem _ _ (fun _ => rfl) hw

theorem Working.sendLoadTo (e : Env) (l : Fin 4) (it : Item) (el : Element) (d : Fin 64) (t : Target) {w : World} (hw : P w) :
    P (World.sendLoadTo e w l it el d t) := by
  unfold World.sendLoadTo
  split
  · rename_i clipId _
    dsimp only
    have h1 := h.dropLoad l (it.refOf el) (h.submit e t.port (.load t.channel clipId)
      { lane := l, ref := it.refOf el, pass := el.pass, number := w.loads } (h.loads (w.loads + 1) hw))
    split
    · exact h.modLane _ _ (fun _ => rfl) (h.modElem _ _ (fun _ => rfl) h1)
    · exact h.loadFail _ _ _ h1
    · exact h.loadFail _ _ _ h1
  · exact hw

theorem Working.repointItem (e : Env) (d : Fin 64) (l : Fin 4) (k : Nat) {w : World} (hw : P w) :
    P (World.repointItem e d l w k) := by
  unfold World.repointItem
  split
  · exact hw
  · exact Working.foldl _ (fun _ _ hw => h.sendLoadTo e _ _ _ _ _ hw) _ hw

theorem Working.repoint (e : Env) (d : Fin 64) {w : World} (hw : P w) : P (World.repoint e w d) :=
  Working.foldl _ (fun _ _ hw => Working.foldl _ (fun _ _ hw => h.repointItem e _ _ _ hw) _ hw) _ hw

theorem Working.trySwitch (e : Env) (d : Fin 64) {w : World} (hw : P w) : P (World.trySwitch e w d) := by
  unfold World.trySwitch
  split
  · exact h.repoint e d (h.entry d _ hw rfl (fun hok => hok))
  · exact hw

theorem Working.resolve (e : Env) (d : Fin 64) {w : World} (hw : P w) : P (World.resolve e w d).1 := by
  unfold World.resolve
  dsimp only
  split
  · exact h.trySwitch e d hw
  · exact hw

theorem Working.sendLoad (e : Env) (l : Fin 4) (it : Item) (el : Element) (d : Fin 64) {w : World} (hw : P w) :
    P (World.sendLoad e w l it el d) := by
  unfold World.sendLoad
  dsimp only
  have h1 := h.resolve e d hw
  split
  · exact h.sendLoadTo e _ _ _ _ _ h1
  · exact h.modElem _ _ (fun _ => rfl) (h.dropLoad _ _ h1)
  · exact h1

theorem Working.setConflict (k : Nat) (d : Fin 64) {w : World} (hw : P w) : P (w.setConflict k d) :=
  h.modElements k _ (fun el => by split <;> rfl) hw

omit h in
/-- A resolution that finds a target finds it through a VALID entry of the class it answers (R143). -/
theorem World.resolve_target {e : Env} {w w' : World} {d : Fin 64} {t : Target} {cls : DevClass}
    (hr : World.resolve e w d = (w', .target t cls)) : (w'.map.get d).valid = true ∧ (w'.map.get d).cls = cls := by
  have active : ∀ v : World, v.activeSide d = .target t cls → (v.map.get d).valid = true ∧ (v.map.get d).cls = cls := by
    intro v hv
    unfold World.activeSide at hv
    dsimp only at hv
    split at hv
    · cases hv
    · split at hv
      · cases hv; simp_all
      · cases hv
  unfold World.resolve at hr
  dsimp only at hr
  split at hr <;> (simp only [Prod.mk.injEq] at hr; obtain ⟨rfl, h2⟩ := hr; exact active _ h2)

theorem Working.requestClaim (l : Fin 4) (k : Nat) (d : Fin 64) {w : World} (hw : P w)
    (hv : (w.map.get d).valid = true) (hc : (w.map.get d).cls = .playout) : P (w.requestClaim l k d).1 := by
  unfold World.requestClaim
  dsimp only
  split
  · rename_i hn
    refine h.entry d _ hw rfl ?_
    rintro ⟨h1, h2, h3, h4, h5⟩
    refine ⟨h1, by simp, ?_, by simp_all, by simp_all⟩
    intro c' hc'
    simp only [Option.some.injEq] at hc'
    subst hc'
    exact ⟨by simp [h2 hn], by simp⟩
  · rename_i c hcl
    split
    · dsimp only
      split
      · exact hw
      · refine h.entry d _ hw rfl ?_
        rintro ⟨h1, h2, h3, h4, h5⟩
        refine ⟨h1, by simp, ?_, by simp_all, by simp_all⟩
        intro c' hc'
        simp only [Option.some.injEq] at hc'
        subst hc'
        exact ⟨(h3 _ hcl).1, by simp⟩
    · rename_i hne
      dsimp only
      refine h.setConflict k d ?_
      split
      · exact hw
      · rename_i hnot
        refine h.entry d _ hw rfl ?_
        rintro ⟨h1, h2, h3, h4, h5⟩
        refine ⟨?_, by simp_all, ?_, by simp_all, by simp_all⟩
        · simp only [List.nodup_append]
          refine ⟨h1, by simp, ?_⟩
          intro a ha b hb
          simp only [List.mem_cons, List.not_mem_nil, or_false] at hb
          subst hb
          rintro rfl
          exact hnot (by simpa using ha)
        · intro c' hc'
          simp only at hc'
          rw [hcl] at hc'
          cases hc'
          refine ⟨?_, (h3 _ hcl).2⟩
          simp only [List.mem_append, List.mem_cons, List.not_mem_nil, or_false, not_or]
          exact ⟨(h3 _ hcl).1, hne⟩

theorem Working.loadEarliest (e : Env) (l : Fin 4) (k : Nat) (d : Fin 64) {w : World} (hw : P w) :
    P (World.loadEarliest e w l k d) := by
  unfold World.loadEarliest
  split
  · exact hw
  · split
    · exact hw
    · split
      · split
        · exact h.defer _ _ hw
        · exact h.sendLoad e _ _ _ _ (h.undefer _ _ hw)
      · exact hw

theorem Working.leaveConflict (d : Fin 64) (k : Nat) {w : World} (hw : P w) : P (w.leaveConflict d k) :=
  h.modElements k _ (fun el => by split <;> rfl) hw

/-- A hand-over to a waiting lane that needs the entry (R150). -/
theorem Working.giveClaim (e : Env) (l : Fin 4) (d : Fin 64) (m : MapEntry) {w : World} (hw : P w)
    (hs : m.service = (w.map.get d).service)
    (hok : ∀ users, users ≠ [] → (w.map.get d).Ok →
      MapEntry.Ok { m with claim := some { lane := l, users }, waiters := m.waiters.filter (fun x => decide (x ≠ l)) })
    (hn : (w.setEntry d m).needs l d = true) : P (World.giveClaim e (w.setEntry d m) l d) := by
  unfold World.giveClaim
  dsimp only
  have h1 : P ((w.setEntry d m).modEntry d (fun m => { m with
      claim := some { lane := l, users := ((w.setEntry d m).lane l).heldKeys.filter (fun k =>
        match (w.setEntry d m).item? k with
        | some it => it.hasClipOn d
        | none => false) }
      waiters := m.waiters.filter (fun x => decide (x ≠ l)) })) := by
    rw [World.modEntry, World.setEntry_setEntry]
    refine h.entry d _ hw ?_ ?_
    · simpa [MapEntry.service, World.setEntry] using hs
    · intro hok'
      have := hok (((w.setEntry d m).lane l).heldKeys.filter (fun k =>
        match (w.setEntry d m).item? k with
        | some it => it.hasClipOn d
        | none => false)) ?_ hok'
      · simpa [World.setEntry] using this
      · intro hnil
        rw [List.filter_eq_nil_iff] at hnil
        unfold World.needs at hn
        rw [List.any_eq_true] at hn
        obtain ⟨k, hk, hk'⟩ := hn
        exact hnil k hk hk'
  have h2 : ∀ {c : Prop} [Decidable c] {v : World}, P v → P (if c then v.modLane l (LaneRec.defer d) else v) := by
    intro c _ v hv
    split
    · exact h.defer _ _ hv
    · exact hv
  have h3 : ∀ (users : List Nat) {c : Prop} [Decidable c] {v : World}, P v →
      P (users.foldl (fun w k => w.leaveConflict d k) (if c then v.modLane l (LaneRec.defer d) else v)) :=
    fun users _ _ _ hv => Working.foldl _ (fun w k hw => h.leaveConflict d k hw) users (h2 hv)
  split
  · exact h3 _ h1
  · split
    · exact h3 _ h1
    · exact h.sendLoad e _ _ _ _ (h3 _ h1)

theorem Working.handOver (e : Env) (d : Fin 64) {w : World} (hw : P w) (hsome : (w.map.get d).claim ≠ none) :
    P (World.handOver e w d) := by
  unfold World.handOver
  dsimp only
  split
  · rename_i hnil
    refine h.entry d _ hw rfl ?_
    rintro ⟨h1, h2, h3, h4, h5⟩
    rw [hnil]
    exact ⟨by simp, by simp, by simp, by simp, by simp⟩
  · rename_i l rest hl
    refine h.giveClaim e l d _ hw rfl ?_ ?_
    · rintro users hu ⟨h1, h2, h3, h4, h5⟩
      refine ⟨?_, by simp, ?_, ?_, ?_⟩
      · exact List.Nodup.filter _ (h1.sublist (List.dropWhile_sublist _))
      · intro c hc
        simp only [Option.some.injEq] at hc
        subst hc
        exact ⟨by simp, hu⟩
      · intro hg; exact absurd (h4 hg) hsome
      · intro hg; exact absurd (h5 hg) hsome
    · have := List.head?_dropWhile_not (fun l => !w.needs l d) (w.map.get d).waiters
      rw [hl] at this
      simpa [World.needs, World.modEntry, World.setEntry, World.lane, World.item?] using this

theorem Working.releaseUse (e : Env) (l : Fin 4) (k : Nat) (d : Fin 64) {w : World} (hw : P w) :
    P (World.releaseUse e l k w d) := by
  unfold World.releaseUse
  split
  · exact hw
  · rename_i c hc
    split
    · dsimp only
      split
      · exact h.handOver e d hw (by simp [hc])
      · rename_i hne
        refine h.entry d _ hw rfl ?_
        rintro ⟨h1, h2, h3, h4, h5⟩
        refine ⟨h1, by simp, ?_, by simp_all, by simp_all⟩
        intro c' hc'
        simp only [Option.some.injEq] at hc'
        subst hc'
        exact ⟨(h3 _ hc).1, hne⟩
    · exact hw

theorem Working.cleanWaiters (l : Fin 4) {w : World} (hw : P w) : P (w.cleanWaiters l) := by
  refine Working.foldl _ (fun w d hw => ?_) _ hw
  split
  · refine h.entry d _ hw rfl ?_
    rintro ⟨h1, h2, h3, h4, h5⟩
    refine ⟨List.Nodup.filter _ h1, ?_, ?_, h4, h5⟩
    · intro hn; simp [h2 hn]
    · intro c hc
      refine ⟨?_, (h3 c hc).2⟩
      intro hm
      exact (h3 c hc).1 (List.mem_filter.1 hm).1
  · exact hw

theorem Working.releaseItem (e : Env) (l : Fin 4) (k : Nat) {w : World} (hw : P w) : P (World.releaseItem e w l k) :=
  Working.foldl _ (fun _ _ hw => h.releaseUse e _ _ _ hw) _ hw

theorem Working.sendDeferred (e : Env) (l : Fin 4) {w : World} (hw : P w) : P (World.sendDeferred e w l) := by
  unfold World.sendDeferred
  split
  · exact hw
  · refine Working.foldl _ (fun w d hw => ?_) _ (h.modLane _ _ (fun _ => rfl) hw)
    split
    · exact h.loadEarliest e _ _ _ hw
    · exact hw

end Sys2Proof.Machine
end

