-- ==== Sys2Proof/Laws/FiringLaws.lean ====
section
/-! SUPPORT. Firing, admission, cycles and edits of the item on air are made of elementary changes (R124 to R139). -/
namespace Sys2Proof.Machine

variable {P : World → Prop} (h : Working P)
include h

theorem Working.fail (ref : ElemRef) (r : FailReason) {w : World} (hw : P w) : P (w.modElem ref (Element.fail r)) :=
  h.modElem _ _ (fun _ => rfl) hw

omit h in
theorem Submitted.apply_renew (s : Submitted) (el : Element) : (s.apply el).renew = el.renew := by cases s <;> rfl

theorem Working.submitFired (e : Env) (l : Fin 4) (ref : ElemRef) (el : Element) (t : Target) (msg : CueMsg) {w : World}
    (hw : P w) : P (World.submitFired e w l ref el t msg) :=
  h.modElem _ _ (fun _ => Submitted.apply_renew _ _) (h.submit e _ _ _ hw)

theorem Working.rollClip (e : Env) (l : Fin 4) (ref : ElemRef) (el : Element) {w : World} (hw : P w) :
    P (World.rollClip e w l ref el) := by
  unfold World.rollClip
  split
  · exact h.fail _ _ hw
  · dsimp only
    rename_i t _
    have h1 := h.modElem ref _ (fun el => Submitted.apply_renew
      (World.submit e w t.port (.roll t.channel) { lane := l, ref, pass := el.pass, number := 0 }).2 el) (h.submit e t.port
      (.roll t.channel) { lane := l, ref, pass := el.pass, number := 0 } hw)
    split
    · exact h.rolls _ (h.modElem _ _ (fun _ => Submitted.apply_renew _ _) (h.submit e _ _ _ hw))
    · exact h.modElem _ _ (fun _ => Submitted.apply_renew _ _) (h.submit e _ _ _ hw)

theorem Working.displaceNext (l : Fin 4) (d : Fin 64) {w : World} (hw : P w) : P (w.displaceNext l d) := by
  unfold World.displaceNext
  split
  · exact hw
  · split
    · exact hw
    · dsimp only
      split
      · exact hw
      · exact Working.foldl _ (fun _ _ hw => h.modElem _ Element.unload (fun _ => rfl) (h.dropLoad _ _ hw)) _ (h.defer _ _ hw)

theorem Working.loadAtFiring (e : Env) (l : Fin 4) (it : Item) (el : Element) (d : Fin 64) (t : Target) {w : World}
    (hw : P w) : P (World.loadAtFiring e w l it el d t).1 := by
  unfold World.loadAtFiring
  dsimp only
  have h1 := h.sendLoadTo e l it el d t hw
  split
  · exact h1
  · split
    · exact h.displaceNext l d h1
    · exact h.fail _ _ h1
    · exact h.fail _ _ h1

theorem Working.fireClip (e : Env) (l : Fin 4) (it : Item) (el : Element) (d : Fin 64) {w : World} (hw : P w) :
    P (World.fireClip e w l it el d).1 := by
  unfold World.fireClip
  dsimp only
  split
  · exact h.rollClip e _ _ _ hw
  · exact hw
  · exact h.fail _ _ hw
  · exact h.fail _ _ hw
  · have h1 := h.resolve e d hw
    split
    · exact h.fail _ _ h1
    · exact h.fail _ _ h1
    · exact h.loadAtFiring e _ _ _ _ _ h1
    · rename_i t hr
      obtain ⟨hv, hc⟩ := World.resolve_target (w' := (World.resolve e w d).1) (Prod.ext rfl hr)
      have h2 := h.requestClaim l it.key d h1 hv hc
      split
      · exact h.fail _ _ h2
      · exact h.loadAtFiring e _ _ _ _ _ h2

theorem Working.fireMessage (e : Env) (l : Fin 4) (ref : ElemRef) (el : Element) (d : Fin 64) (msg : Fin 8 → CueMsg)
    (stops : Bool) {w : World} (hw : P w) : P (World.fireMessage e w l ref el d msg stops) := by
  unfold World.fireMessage
  dsimp only
  have h1 := h.resolve e d hw
  split
  · exact h.fail _ _ h1
  · exact h.fail _ _ h1
  · split <;> split
    · exact h.fail _ _ h1
    · exact h.submitFired e _ _ _ _ _ h1
    · exact h.fail _ _ h1
    · exact h.submitFired e _ _ _ _ _ h1

theorem Working.fireCue (e : Env) (l : Fin 4) (it : Item) (el : Element) (st : Fin 6) {w : World} (hw : P w) :
    P (World.fireCue e w l it el st) := by
  unfold World.fireCue
  dsimp only
  have h1 := h.dropCue l (it.refOf el) (h.giveGo e l st it.key (it.refOf el) it.label hw)
  split
  · exact h.modElem _ _ (fun _ => rfl) h1
  · exact h.fail _ _ h1

theorem Working.markLate (e : Env) (ref : ElemRef) (due : Fc) {w : World} (hw : P w) : P (World.markLate e w ref due) := by
  unfold World.markLate
  split
  · exact h.modElem _ _ (fun _ => rfl) hw
  · exact hw

theorem Working.putBack (x : Option FireEntry) {w : World} (hw : P w) : P (w.putBack x) := by
  cases x
  · exact hw
  · exact h.modElem _ _ (fun _ => rfl) hw

theorem Working.fireElement (e : Env) (l : Fin 4) (ref : ElemRef) (due : Fc) {w : World} (hw : P w) :
    P (World.fireElement e w l ref due).1 := by
  unfold World.fireElement
  split
  · exact hw
  · rename_i it el _
    have h1 := h.markLate e ref due hw
    dsimp only
    generalize World.markLate e w ref due = w1 at h1 ⊢
    cases el.content <;> dsimp only
    · exact h.fireClip e _ _ _ _ h1
    · exact h.fireMessage e _ _ _ _ _ _ h1
    · exact h.fireMessage e _ _ _ _ _ _ h1
    · exact h.fireMessage e _ _ _ _ _ _ h1
    · exact h.fireCue e _ _ _ _ h1

theorem Working.askQueued (e : Env) (l : Fin 4) (it : Item) (el : Element) (st : Fin 6) (due : Fc) {w : World} (hw : P w) :
    P (World.askQueued e w l it el st due) := by
  unfold World.askQueued
  dsimp only
  have h1 := h.askStandby e l st it.key (it.refOf el) it.label (fcDist e.now due) hw
  split
  · exact h.dropEntry _ _ (h.fail _ _ h1)
  · exact h.modQueue _ _ (h.addCue _ _ h1)

theorem Working.askEntry (e : Env) (l : Fin 4) (en : FireEntry) {w : World} (hw : P w) : P (World.askEntry e w l en) := by
  unfold World.askEntry
  split
  · split
    · split
      · exact h.askQueued e _ _ _ _ _ hw
      · exact hw
    · exact hw
  · exact hw

theorem Working.handEntry (e : Env) (en : FireEntry) {w : World} (hw : P w) : P (World.handEntry e w en) := by
  unfold World.handEntry
  split
  · split
    · split
      · exact h.handDistance e _ _ _ hw
      · exact hw
    · exact hw
  · exact hw

theorem Working.fireEntry (e : Env) (l : Fin 4) (ref : ElemRef) (due : Fc) {w : World} (hw : P w) :
    P (World.fireEntry e w l ref due).1 := by
  unfold World.fireEntry
  dsimp only
  have h1 := h.fireElement e l ref due hw
  split
  · exact h.modQueue _ _ h1
  · exact h.dropEntry _ _ h1

theorem Working.enqueue (e : Env) (l : Fin 4) (it : Item) (el : Element) {w : World} (hw : P w) :
    P (World.enqueue e w l it el) := by
  unfold World.enqueue
  dsimp only
  have h1 := h.modQueue l (placeEntry it (World.entryOf w l it el)) (h.modElem (it.refOf el)
    (fun x => { x with fire := .queued }) (fun _ => rfl) hw)
  split
  · exact h.askEntry e _ _ h1
  · exact h1

theorem Working.skip (ref : ElemRef) {w : World} (hw : P w) : P (w.skip ref) := h.modElem _ _ (fun _ => rfl) hw

theorem Working.takeEntry (e : Env) (l : Fin 4) (arrival : Bool) (it : Item) (el : Element) (q : List FireEntry)
    (displaced : Option FireEntry) {w : World} (hw : P w) : P (World.takeEntry e w l arrival it el q displaced).1 := by
  unfold World.takeEntry
  dsimp only
  have h1 := h.enqueue e l it el (h.putBack displaced (h.modQueue l (fun _ => q) hw))
  split
  · exact h1
  · split
    · exact h1
    · exact h.fireEntry e _ _ _ h1

theorem Working.admitOne (e : Env) (l : Fin 4) (arrival : Bool) (n : Nat) {w : World} (hw : P w) :
    P (World.admitOne e l arrival n w) := by
  induction n generalizing w with
  | zero => exact hw
  | succ n ih =>
    unfold World.admitOne
    split
    · exact hw
    · split
      · exact hw
      · split
        · exact hw
        · split
          · exact ih (h.skip _ hw)
          · dsimp only
            have h1 := fun it el q x => h.takeEntry e l arrival it el q x hw
            split
            · exact ih (h1 _ _ _ _)
            · exact h1 _ _ _ _

theorem Working.admitNext (e : Env) (l : Fin 4) {w : World} (hw : P w) : P (World.admitNext e w l) := h.admitOne e _ _ _ hw

theorem Working.treatAdmitted (e : Env) (l : Fin 4) (it : Item) (el : Element) {w : World} (hw : P w) :
    P (World.treatAdmitted e w l it el) := by
  unfold World.treatAdmitted
  split
  · exact h.admitNext e _ (h.skip _ hw)
  · dsimp only
    have h1 := h.takeEntry e l false it el (w.lane l).fireQueue none hw
    split
    · exact h.admitNext e _ h1
    · exact h1

theorem Working.fillQueue (e : Env) (l : Fin 4) (among : Item → List Element) (n : Nat) {w : World} (hw : P w) :
    P (World.fillQueue e l among n w) := by
  induction n generalizing w with
  | zero => exact hw
  | succ n ih =>
    unfold World.fillQueue
    dsimp only
    split <;> split
    · exact ih (h.admitNext e _ hw)
    · exact hw
    · exact ih (h.admitNext e _ hw)
    · exact hw

theorem Working.fireDue (e : Env) (l : Fin 4) (n : Nat) {w : World} (hw : P w) : P (World.fireDue e l n w) := by
  induction n generalizing w with
  | zero => exact hw
  | succ n ih =>
    unfold World.fireDue
    split
    · exact hw
    · split
      · dsimp only
        split
        · exact ih (h.fireEntry e _ _ _ hw)
        · exact ih (h.admitOne e _ _ _ (h.fireEntry e _ _ _ hw))
      · exact hw

theorem Working.askArrival (e : Env) (l : Fin 4) (en : FireEntry) {w : World} (hw : P w) : P (World.askArrival e l w en) := by
  unfold World.askArrival
  dsimp only
  have h1 := h.askEntry e l en hw
  split
  · exact h.admitOne e _ _ _ h1
  · exact h1

theorem Working.fireArrival (e : Env) (l : Fin 4) {w : World} (hw : P w) : P (World.fireArrival e w l) :=
  h.fireDue e _ _ (Working.foldl _ (fun _ _ hw => h.askArrival e _ _ hw) _
    (Working.foldl _ (fun _ _ hw => h.handEntry e _ hw) _ hw))

omit h in
theorem Element.readmit_renew (k shift : BitVec 32) (el : Element) : (el.readmit k shift).renew = el.renew := by
  unfold Element.readmit
  dsimp only
  split <;> rfl

theorem Working.loadReadmitted (e : Env) (l : Fin 4) (it : Item) (el : Element) {w : World} (hw : P w) :
    P (World.loadReadmitted e w l it el) := by
  unfold World.loadReadmitted
  split
  · rename_i d _ _
    dsimp only
    split
    · exact hw
    · rename_i hv
      split
      · exact h.sendLoad e _ _ _ _ hw
      · rename_i hc
        have hc' : (w.map.get d).cls = .playout := by
          cases hcls : (w.map.get d).cls
          · rfl
          · exact absurd hcls hc
        have h1 := h.sendLoad e l it el d (h.requestClaim l it.key d hw (by simpa using hv) hc')
        split
        · split
          · split
            · exact h.displaceNext _ _ h1
            · exact h1
          · exact h1
        · exact hw
  · exact hw

theorem Working.readmitRange (e : Env) (l : Fin 4) (it : Item) (period : Nat) {w : World} (hw : P w) :
    P (World.readmitRange e w l it period) :=
  Working.foldl _ (fun _ _ hw => h.loadReadmitted e _ _ _ hw) _ (h.modLane _ _ (fun _ => rfl)
    (Working.foldl _ (fun _ _ hw => h.modElem _ _ (fun _ => Element.readmit_renew _ _ _)
      (h.dropCue _ _ (h.dropLoad _ _ hw))) _ hw))

theorem Working.cycleTests (e : Env) (l : Fin 4) (n : Nat) {w : World} (hw : P w) : P (World.cycleTests e l n w) := by
  induction n generalizing w with
  | zero => exact hw
  | succ n ih =>
    unfold World.cycleTests
    split
    · exact hw
    · split
      · exact hw
      · split
        · exact hw
        · dsimp only
          have h1 := fun it period => h.fillQueue e l Item.cycleElements admitRounds (h.readmitRange e l it period hw)
          split
          · exact ih (h1 _ _)
          · exact h1 _ _

theorem Working.cycleTest (e : Env) (l : Fin 4) {w : World} (hw : P w) : P (World.cycleTest e w l) := h.cycleTests e _ _ hw

theorem Working.testCompleted (e : Env) (before : World) (l : Fin 4) {w : World} (hw : P w) :
    P (World.testCompleted e before w l) := by
  unfold World.testCompleted
  split
  · exact h.cycleTest e _ hw
  · exact hw

theorem Working.finishWait (e : Env) (l : Fin 4) (en : FireEntry) {w : World} (hw : P w) :
    P (World.finishWait e l w en) := by
  unfold World.finishWait
  split
  · exact hw
  · split
    · exact h.dropEntry _ _ hw
    · split
      · dsimp only
        refine h.admitNext e _ (h.dropEntry _ _ (h.rollClip e _ _ _ ?_))
        split
        · exact h.modElem _ _ (fun _ => rfl) hw
        · exact hw
      · exact h.admitNext e _ (h.dropEntry _ _ (h.fail _ _ hw))
      · exact hw

theorem Working.finishWaits (e : Env) (l : Fin 4) {w : World} (hw : P w) : P (World.finishWaits e w l) := by
  unfold World.finishWaits
  dsimp only
  have h1 : P (((w.lane l).fireQueue.filter w.waitOver).foldl (World.finishWait e l) w) :=
    Working.foldl _ (fun _ en hw => h.finishWait e l en hw) _ hw
  split
  · exact h.cycleTest e _ h1
  · exact h.testCompleted e _ _ h1

theorem Working.takeOut (l : Fin 4) (ref : ElemRef) {w : World} (hw : P w) : P (w.takeOut l ref) :=
  h.modElem _ _ (fun _ => rfl) (h.dropEntry _ _ hw)

theorem Working.placeAnew (l : Fin 4) (it : Item) (en : FireEntry) {w : World} (hw : P w) : P (w.placeAnew l it en) :=
  h.modQueue _ _ (h.dropEntry _ _ hw)

theorem Working.requeue (e : Env) (l : Fin 4) (ref : ElemRef) {w : World} (hw : P w) : P (World.requeue e w l ref) := by
  unfold World.requeue
  split
  · exact hw
  · dsimp only
    split
    · exact hw
    · split
      · exact h.modQueue _ _ hw
      · split
        · exact h.treatAdmitted e _ _ _ (h.takeOut _ _ hw)
        · exact h.placeAnew _ _ _ hw

theorem Working.fireLate (e : Env) (l : Fin 4) (en : FireEntry) {w : World} (hw : P w) : P (World.fireLate e w l en) := by
  unfold World.fireLate
  dsimp only
  have h1 := h.fireElement e l en.ref en.due
    (h.modElem en.ref (fun x => { x with late := true }) (fun _ => rfl) hw)
  split
  · exact h1
  · exact h.admitNext e _ (h.dropEntry _ _ h1)

theorem Working.retargetQueued (e : Env) (l : Fin 4) (it : Item) (old new : Element) (en : FireEntry) {w : World}
    (hw : P w) : P (World.retargetQueued e w l it old new en) := by
  unfold World.retargetQueued
  dsimp only
  have h1 : ∀ {c : Prop} [Decidable c],
      P (if c then (w.modLane l (LaneRec.dropLoad (it.refOf new))).modElem (it.refOf new) Element.unload else w) := by
    intro c _
    split
    · exact h.modElem _ _ (fun _ => rfl) (h.dropLoad _ _ hw)
    · exact hw
  have h2 : ∀ (st : Fin 6) {c : Prop} [Decidable c] {v : World}, P v →
      P (if c then (World.clearCue e v st (it.refOf new) false).modLane l (LaneRec.dropCue (it.refOf new)) else v) := by
    intro st c _ v hv
    split
    · exact h.dropCue _ _ (h.clearCue e _ _ _ hv)
    · exact hv
  split
  · refine h.fireLate e _ _ (h.placeAnew _ _ _ (h.modQueue _ _ ?_))
    split
    · exact h2 _ h1
    · exact h1
  · refine h.requeue e _ _ (h.modQueue _ _ ?_)
    split
    · exact h2 _ h1
    · exact h1

theorem Working.actOnAir (e : Env) (l : Fin 4) (c : ElemChange) {w : World} (hw : P w) : P (World.actOnAir e l w c) := by
  unfold World.actOnAir
  split
  · split
    · exact hw
    · dsimp only
      refine h.admitNext e _ ?_
      split
      · split
        · exact h.modElem _ _ (fun _ => rfl) hw
        · exact hw
      · exact hw
  · split
    · exact hw
    · split
      · exact h.requeue e _ _ hw
      · split
        · exact h.admitNext e _ hw
        · exact hw
  · split
    · exact hw
    · split
      · split
        · exact h.retargetQueued e _ _ _ _ _ hw
        · exact hw
      · split
        · exact h.admitNext e _ hw
        · exact hw
  · dsimp only
    have h1 := h.clearCueEverywhere e ‹ElemRef› (h.dropCue l ‹ElemRef› (h.dropLoad l ‹ElemRef› hw))
    split
    · exact h.admitNext e _ (h.dropEntry _ _ h1)
    · exact h1

theorem Working.changeOnAir (e : Env) (l : Fin 4) (c : ElemChange) {w : World} (hw : P w) :
    P (World.changeOnAir e l w c) := h.testCompleted e _ _ (h.actOnAir e l c hw)

end Sys2Proof.Machine
end

