-- ==== Sys2Proof/Laws/NoticeLaws.lean ====
section
/-! SUPPORT. What a change notice holds and what it does at the least: the small lemmas of `Notice.between`, the notice that lists no
element change, the recompute that every notice asks for, and the states that leaving WAITING passes over; and that arming and the element changes of a notice are
made of elementary changes (R98, R100). -/
namespace Sys2Proof.Machine

section Elementary
variable {P : World → Prop} (h : Working P)
include h

theorem Working.armClip (e : Env) (l : Fin 4) (ref : ElemRef) {w : World} (hw : P w) : P (World.armClip e l w ref) := by
  unfold World.armClip
  split
  · exact hw
  · split
    · rename_i d _ _
      have h1 := h.resolve e d hw
      dsimp only
      split
      · exact h.fail _ _ h1
      · exact h.fail _ _ h1
      · exact h.sendLoadTo e _ _ _ _ _ h1
      · rename_i hr
        have ht := World.resolve_target (w' := (World.resolve e w d).1) (Prod.ext rfl hr)
        have h2 := h.requestClaim l (‹Item› : Item).key d h1 ht.1 ht.2
        repeat' split
        all_goals first | exact h2 | exact h.defer _ _ h2 | exact h.sendLoadTo e _ _ _ _ _ (h.undefer _ _ h2)
    · exact hw

theorem Working.leaveEntry (e : Env) (l : Fin 4) (k : Nat) (d : Fin 64) {w : World} (hw : P w) :
    P (World.leaveEntry e w l k d) := by
  unfold World.leaveEntry
  split
  · exact hw
  · split
    · exact hw
    · exact h.cleanWaiters _ (h.undefer _ _ (h.releaseUse e _ _ _ hw))

theorem Working.dropOld (e : Env) (l : Fin 4) (k : Nat) (ref : ElemRef) (old : Element) {w : World} (hw : P w) :
    P (World.dropOld e w l k ref old) := by
  unfold World.dropOld
  split
  · exact h.leaveEntry e _ _ _ (h.dropLoad _ _ hw)
  · exact h.dropCue _ _ (h.clearCue e _ _ _ hw)
  · exact hw

theorem Working.loadLater (e : Env) (l : Fin 4) (k : Nat) (old : Element) (index : Nat) {w : World} (hw : P w) :
    P (World.loadLater e w l k old index) := by
  unfold World.loadLater
  split
  · split
    · split
      · exact h.loadEarliest e _ _ _ hw
      · exact hw
    · exact hw
  · exact hw

/-- A change to an element of NEXT leaves what the blocks' working leaves (R100). -/
theorem Working.changeNext (e : Env) (l : Fin 4) (k : Nat) (c : ElemChange) {w : World} (hw : P w) :
    P (World.changeNext e l k w c) := by
  unfold World.changeNext
  split
  · exact h.armClip e _ _ hw
  · exact hw
  · rename_i ref old
    dsimp only
    have h1 := h.armClip e l ref (h.dropOld e l k ref old
      (h.modElem ref (fun x => if old.content.isClip then x.await.unload else x.await) (fun el => by split <;> rfl) hw))
    split
    · exact h1
    · exact h.loadLater e _ _ _ _ h1
  · exact h.loadLater e _ _ _ _ (h.dropOld e _ _ _ _ hw)

end Elementary

variable (e : Env) (was w : World) (l : Fin 4)

@[simp] theorem Notice.between_included : (Notice.between was w l).included = was.includedChanged w l := rfl
@[simp] theorem Notice.between_item : (Notice.between was w l).item = was.onAirChange w l := rfl
@[simp] theorem Notice.between_onAir : (Notice.between was w l).onAir = [] := rfl
@[simp] theorem Notice.between_next : (Notice.between was w l).next = [] := rfl
@[simp] theorem Notice.between_disarmed : (Notice.between was w l).disarmed = false := rfl

@[simp] theorem World.onAirChange_self : w.onAirChange w l = ⟨false, false, false⟩ := by simp [World.onAirChange]

/-- A lane that is not in WAITING does not leave it. -/
theorem World.leaveWaiting_of_ne (h : (w.lane l).state ≠ .waiting) : w.leaveWaiting l = w := if_neg h

/-- A notice that lists no element change derives NEXT, and where NEXT changed or was disarmed leaves waiter lists and WAITING. -/
theorem World.applyNotice_of_no_element (n : Notice) (hOn : n.onAir = []) (hNext : n.next = []) :
    World.applyNotice e w l n =
      let derived := World.deriveNext e w l
      let changed := decide ((derived.lane l).next ≠ (w.lane l).next)
      let kept := if n.disarmed || ((w.lane l).next.isSome && changed) then derived.cleanWaiters l else derived
      (if n.disarmed || changed then kept.leaveWaiting l else kept).askRecompute l := by
  unfold World.applyNotice
  rw [hOn, hNext]
  cases (w.lane l).next <;> simp only [List.foldl_nil, ne_eq, not_true_eq_false, decide_false, Bool.or_false] <;> rfl

/-- Every notice asks for the lane's recompute (R73). -/
theorem World.applyNotice_recompute (n : Notice) : ((World.applyNotice e w l n).due.get l).recompute = true := by
  simp [World.applyNotice, World.askRecompute, World.setDue]

end Sys2Proof.Machine
end

