-- ==== Sys2Proof/Laws/RequestLaws.lean ====
section
/-! SUPPORT. The service of a request at the head of the queue: what its handler answers is what the part answers (R204). -/
namespace Sys2Proof.Machine

/-- A request of the kind at the head is answered by its handler, from the part with nothing driven yet (R204). -/
theorem State.Asks.request {s : State} {kind tag : Byte} {p : List Byte} {rest : List Request} (h : Handler)
    (hs : s.Asks kind tag p rest) :
    request kind h s = .next (s.replied rest tag (finish s.begun (h s.begun p)).1 (finish s.begun (h s.begun p)).2.1
      (finish s.begun (h s.begun p)).2.2) := by
  obtain ⟨hr, len, hl, hq⟩ := hs
  simp only [Machine.request, State.run, State.serve]
  have hq' : s.quiet.ctl.requests = { kind, tag, length := len, payload := p } :: rest := hq
  rw [hq']
  have hr' : s.quiet.ctl.responses.length < Config.controlQueueSize := hr
  have hl' : ¬ maxRequest < len.toNat := by simpa [maxRequest] using hl
  simp only [true_and, hr', if_true, hl', if_false]
  rfl

/-- A head of another kind, an empty queue and four responses that wait leave a request's row without effect (log 1). -/
theorem request_waits {s : State} {kind : Byte} (h : Handler)
    (hs : ∀ r rest, s.ctl.requests = r :: rest → r.kind ≠ kind ∨ 4 ≤ s.ctl.responses.length) :
    request kind h s = .next s.quiet.drivePulse := by
  have : State.serve kind h s.quiet = s.quiet := by
    unfold State.serve
    cases hq : s.quiet.ctl.requests with
    | nil => rfl
    | cons r rest =>
      dsimp only
      rw [if_neg]
      rintro ⟨h1, h2⟩
      have h2' : s.ctl.responses.length < 4 := h2
      rcases hs r rest hq with h3 | h3
      · exact h3 h1
      · omega
  simp only [Machine.request, State.run, this]

/-- Everything that the service of a request can do: it waits, or the head is answered under its tag by the handler, or, longer than 60
bytes, refused with BAD_ARG (R203, R204). -/
theorem request_cases (s : State) (kind : Byte) (h : Handler) :
    request kind h s = .next s.quiet.drivePulse ∨
    ∃ r rest, s.ctl.requests = r :: rest ∧ r.kind = kind ∧ s.ctl.responses.length < 4 ∧
      ((60 < r.length.toNat ∧ request kind h s = .next (s.replied rest r.tag s.begun .badArg [])) ∨
       (r.length.toNat ≤ 60 ∧ request kind h s = .next (s.replied rest r.tag (finish s.begun (h s.begun r.payload)).1
          (finish s.begun (h s.begun r.payload)).2.1 (finish s.begun (h s.begun r.payload)).2.2))) := by
  by_cases hs : ∀ r rest, s.ctl.requests = r :: rest → r.kind ≠ kind ∨ 4 ≤ s.ctl.responses.length
  · exact .inl (request_waits h hs)
  · push Not at hs
    obtain ⟨r, rest, hq, hk, hr⟩ := hs
    refine .inr ⟨r, rest, hq, hk, hr, ?_⟩
    by_cases hl : 60 < r.length.toNat
    · refine .inl ⟨hl, ?_⟩
      simp only [Machine.request, State.run, State.serve]
      have hq' : s.quiet.ctl.requests = r :: rest := hq
      rw [hq']
      have hr' : s.quiet.ctl.responses.length < Config.controlQueueSize := hr
      simp only [hk, true_and, hr', if_true]
      rw [if_pos (by simpa [maxRequest] using hl)]
      rfl
    · refine .inr ⟨by omega, ?_⟩
      subst hk
      exact State.Asks.request h ⟨hr, r.length, by omega, hq⟩

/-- A refused request leaves the part as it was (R25, R204). -/
theorem finish_refused (d : Dev) (x : Except Status Answer) (hx : (finish d x).2.1 ≠ .ok) :
    (finish d x).1 = d ∧ (finish d x).2.2 = [] := by
  rcases x with st | (p | ⟨d1, p⟩ | ⟨d1, f⟩)
  · exact ⟨rfl, rfl⟩
  all_goals exact absurd rfl hx

@[simp] theorem want_true (st : Status) : want true st = .ok () := rfl
@[simp] theorem want_false (st : Status) : want false st = .error st := rfl
@[simp] theorem need_some {α : Type} (a : α) (st : Status) : need (some a) st = .ok a := rfl
@[simp] theorem need_none {α : Type} (st : Status) : need (none : Option α) st = .error st := rfl
@[simp] theorem Except.ok_bind {ε α β : Type} (a : α) (f : α → Except ε β) : (Except.ok a >>= f) = f a := rfl
@[simp] theorem Except.error_bind {ε α β : Type} (e : ε) (f : α → Except ε β) : (Except.error e >>= f) = .error e := rfl

theorem fields_eq {α : Type} {r : Reader α} {p : List Byte} {q : α} (h : readAll r p = some q) : fields r p = .ok q := by
  simp [fields, h]

theorem numbered_eq {n k : Nat} {i : Fin n} (h : place? n k = some i) : numbered n k = .ok i := by simp [numbered, h]

theorem Dev.find_eq {d : Dev} {k : Nat} {it : Item} (h : d.world.item? k = some it) : d.find k = .ok it := by
  simp [Dev.find, h]

theorem itemKey_eq {k : Nat} (h : k ≠ 0) : itemKey k = .ok () := by simp [itemKey, h]

end Sys2Proof.Machine
end

