-- ==== Sys2Proof/Tests/Slice0.lean ====
section
/-! SUPPORT. The model's own tests: ill-formed terms that WellFormed refuses, figures worked in the manual, and for every statement with
hypotheses a state and operands that meet them. -/
namespace Sys2Proof.Tests
open Sys2Proof Sys2Proof.Machine

/-! ### WellFormed refuses what it should -/

theorem test_status_code_is_no_write : Instr.WellFormed (.statusTransaction (some 0x5A#8) 0) = false := by decide
theorem test_status_code_is_no_read : Instr.WellFormed (.statusTransaction (some 0xA5#8) 0) = false := by decide
theorem test_label_fits_its_bytes : Instr.WellFormed (.referencePulse 4800 (some ⟨256, 0, 0, 0⟩)) = false := by decide
theorem test_alive_is_no_discard :
    Instr.WellFormed (.stationFrameDiscard 0 (linkFrame 0x91#8 [])) = false := by decide +kernel
theorem test_alive_after_other_bytes_is_no_discard :
    Instr.WellFormed (.stationFrameDiscard 0 ([0x00#8, 0x91#8] ++ linkFrame 0x91#8 [])) = false := by decide +kernel
theorem test_count_is_a_discard :
    Instr.WellFormed (.stationFrameDiscard 0 (linkFrame 0x55#8 [])) = true := by decide +kernel

/-! ### Figures worked in the manual -/

/-- R54: with a = 4,294,967,290 and b = 10 the difference is 16. -/
theorem test_distance_wraps : fcDist 4294967290#32 10#32 = 16 := by decide
/-- R70: 299 and 300 frames at 29.97, 599 and 600 at 59.94. -/
theorem test_countdown : Rate.r2997.countdown 299 = 10 ∧ Rate.r2997.countdown 300 = 11 ∧ Rate.r5994.countdown 599 = 10 ∧
    Rate.r5994.countdown 600 = 11 := by decide
/-- R61: 12:00:00:24 at 25 becomes 12:00:00;28 at 29.97. -/
theorem test_rate_conversion : convertLabel .r25 .r2997 ⟨12, 0, 0, 24⟩ = ⟨12, 0, 0, 28⟩ := by decide
/-- R62: the frame after 00:00:59;29 at 29.97 is 00:01:00;02. -/
theorem test_drop_frame : Rate.r2997.label 1799 = ⟨0, 0, 59, 29⟩ ∧ Rate.r2997.label 1800 = ⟨0, 1, 0, 2⟩ := by decide
/-- R172: the check value of the CRC. -/
theorem test_crc_check_value : crc16 [0x31#8, 0x32#8, 0x33#8, 0x34#8, 0x35#8, 0x36#8, 0x37#8, 0x38#8, 0x39#8] = 0x29B1#16 := by
  decide +kernel
/-- The status byte of an idle port: four free request slots, nothing else (R202, R209). -/
theorem test_status_byte : State.reset.statusByte = 0x80#8 := by decide +kernel


/-! ### States and operands that meet the statements' hypotheses -/

/-- The part after power-on reset with its world, and so on, as a test needs them. -/
def withWorld (f : World → World) : State := { State.reset with dev := { State.reset.dev with world := f .reset } }
def withRef (f : RefUnit → RefUnit) : State :=
  { State.reset with dev := { State.reset.dev with env := { State.reset.dev.env with ref := f .reset } } }
def asked (kind : Byte) (p : List Byte) (s : State) : State :=
  { s with ctl := { s.ctl with requests := [{ kind, tag := 1#8, length := BitVec.ofNat 8 p.length, payload := p }], responses := [] } }

theorem asked_asks (kind : Byte) (p : List Byte) (s : State) (h : p.length ≤ 60) : (asked kind p s).Asks kind 1#8 p [] := by
  refine ⟨by simp [asked], BitVec.ofNat 8 p.length, ?_, rfl⟩
  simp only [BitVec.toNat_ofNat]; omega

/-- Element and item records as a rundown of the tests has them. -/
def clipEl (n : Nat) : Element := Element.create ⟨n, 1#32⟩ (.clip 0 5#32) 0
def cueEl (n : Nat) (gating : Bool) : Element := Element.create ⟨n, 1#32⟩ (.cue 0 100 gating) 0
def item (n key : Nat) (els : List Element) : Item :=
  { ref := ⟨n, 1#32⟩, key, lane := 0, place := .order, label := [], state := .pending, disposition := .inOrder, planned := 100
    endMode := .manual, dropPriority := 0, absorber := none, cycle := none, elements := els, start := none, actual := none
    effPlanned := none, proposed := false, rev := 0 }
/-- Items 7 and 8 stand in lane 0's order with the clip elements 0 and 1. -/
def items2 : List Item := [item 0 7 [clipEl 0], item 1 8 [clipEl 1]]
/-- A store that holds the items given in lane 0's order, on the first records of the pools. -/
def storeOf (its : List Item) (n : Nat) : Store :=
  { items := its, freeItems := freshRecords its.length (512 - its.length), freeElements := freshRecords n (4096 - n)
    orders := (Tbl.fill 4 []).set 0 (its.map (·.key)), standbys := Tbl.fill 4 none }

theorem freshRecords_num (a n : Nat) : (freshRecords a n).map (·.num) = List.range' a n := by
  induction n generalizing a with
  | zero => rfl
  | succ n ih => simp [freshRecords, ih, List.range'_succ]

/-- The two items' store is whole, whatever their states and dispositions. -/
theorem store2_ok (a b : Item) (ha : a.key = 7 ∧ a.ref.num = 0 ∧ a.elements.map (·.ref.num) = [0] ∧ a.lane = 0 ∧ a.place = .order)
    (hb : b.key = 8 ∧ b.ref.num = 1 ∧ b.elements.map (·.ref.num) = [1] ∧ b.lane = 0 ∧ b.place = .order) :
    (storeOf [a, b] 2).Ok ∧ (storeOf [a, b] 2).Placed := by
  obtain ⟨a1, a2, a3, a4, a5⟩ := ha
  obtain ⟨b1, b2, b3, b4, b5⟩ := hb
  refine ⟨⟨?_, ?_, ?_⟩, ?_, ?_, ?_⟩
  · simp [storeOf, a1, b1]
  · simp only [storeOf, List.map_append, freshRecords_num, List.map_cons, List.map_nil, a2, b2, List.length_cons, List.length_nil]
    exact List.Perm.of_eq (by rw [List.range_eq_range']; rfl)
  · have : ([a, b].flatMap (fun it => it.elements.map (·.ref))).map (·.num) = [0, 1] := by
      have h1 : (a.elements.map (·.ref)).map (·.num) = [0] := by simpa [List.map_map, Function.comp_def] using a3
      have h2 : (b.elements.map (·.ref)).map (·.num) = [1] := by simpa [List.map_map, Function.comp_def] using b3
      simp only [List.flatMap_cons, List.flatMap_nil, List.append_nil, List.map_append, h1, h2]; rfl
    simp only [storeOf, List.map_append, this, freshRecords_num]
    exact List.Perm.of_eq (by rw [List.range_eq_range']; rfl)
  · intro l; simp only [storeOf, Tbl.get_set]; split <;> simp [a1, b1]
  · intro l k
    simp only [storeOf, Tbl.get_set]
    by_cases h : (0 : Fin 4) = l
    · subst h; simp [a1, b1, a4, b4, a5, b5, eq_comm]
    · simp [h, a4, b4]
  · intro l k; simp [storeOf, a5, b5]

def two : State := withWorld (fun w => w.setStore (storeOf items2 2))

theorem meets_StepRunsTheFrontCommand :
    ({ State.reset with pending := [.alive 5] }).pending = .alive 5 :: [] ∧ State.reset.pending = [] := ⟨rfl, rfl⟩

theorem meets_RequestsAreAnsweredUnderTheirTag :
    (requestKind .getitem = some 0x20#8 ∧ ∃ r, (asked 0x20#8 [0, 7] two).ctl.requests = r :: [] ∧ r.kind = 0x20#8 ∧
      (asked 0x20#8 [0, 7] two).ctl.responses.length < 4) ∧
    (∃ r, (asked 0x17#8 [] two).ctl.requests = r :: [] ∧ (asked 0x17#8 [] two).ctl.responses.length < 4 ∧
      ∀ c, requestKind c ≠ some r.kind) ∧
    (∀ r rest, (asked 0x17#8 [] two).ctl.requests = r :: rest → r.kind ≠ 0x20#8) ∧
    (let r : Request := { kind := 0x20#8, tag := 1#8, length := 61#8, payload := List.replicate 61 0 }
     let s := { State.reset with ctl := { State.reset.ctl with requests := [r], responses := [] } }
     s.ctl.requests = r :: [] ∧ 60 < r.length.toNat ∧ s.ctl.responses.length < 4) := by
  refine ⟨⟨rfl, _, rfl, by decide, by decide⟩, ⟨_, rfl, by decide, ?_⟩, ?_, ⟨rfl, by decide, by decide⟩⟩
  · intro c; cases c <;> simp [requestKind]
  · intro r rest h; simp only [asked, List.cons.injEq] at h; rw [← h.1]; decide

theorem meets_LookupsReturnTheRecords :
    ((asked 0x20#8 [0, 7] two).Asks 0x20#8 1#8 [0, 7] [] ∧ readAll (readNat 2) [0#8, 7] = some 7 ∧
      (asked 0x20#8 [0, 7] two).dev.world.item? 7 = some (item 0 7 [clipEl 0])) ∧
    ((asked 0x21#8 [0, 7, 0] two).Asks 0x21#8 1#8 [0, 7, 0] [] ∧ readAll readDelel [0#8, 7, 0] = some (7, 0) ∧
      (asked 0x21#8 [0, 7, 0] two).dev.world.item? 7 = some (item 0 7 [clipEl 0]) ∧
      (item 0 7 [clipEl 0]).elements[0]? = some (clipEl 0)) ∧
    ((asked 0x22#8 [3, 0, 0] two).Asks 0x22#8 1#8 [3, 0, 0] [] ∧ readAll readLaneKey [3#8, 0, 0] = some (3, 0) ∧
      place? 4 3 = some 3 ∧ (asked 0x22#8 [3, 0, 0] two).dev.world.store.standsIn 3 0) ∧
    ((asked 0x23#8 [0, 0, 8] two).Asks 0x23#8 1#8 [0, 0, 8] [] ∧ readAll readLaneKey [0#8, 0, 8] = some (0, 8) ∧
      place? 4 0 = some 0 ∧ (asked 0x23#8 [0, 0, 8] two).dev.world.store.standsIn 0 8) ∧
    (asked 0x33#8 [] two).Asks 0x33#8 1#8 [] [] :=
  ⟨⟨asked_asks _ _ _ (by decide), rfl, rfl⟩, ⟨asked_asks _ _ _ (by decide), rfl, rfl, rfl⟩,
    ⟨asked_asks _ _ _ (by decide), rfl, rfl, .inl rfl⟩, ⟨asked_asks _ _ _ (by decide), rfl, rfl, .inr ⟨_, rfl, rfl, rfl⟩⟩,
    asked_asks _ _ _ (by decide)⟩

theorem meets_ScanCountsAConsecutiveRun :
    (asked 0x1C#8 [0, 0, 0, 2, 0, 2, 0] two).Asks 0x1C#8 1#8 [0, 0, 0, 2, 0, 2, 0] [] ∧
    readAll readScan [0#8, 0, 0, 2, 0, 2, 0] =
      some { lane := 0, start := 0, property := .done, lack := false, maximum := 512 } ∧
    place? 4 0 = some 0 ∧ (asked 0x1C#8 [0, 0, 0, 2, 0, 2, 0] two).dev.world.store.standsIn 0 0 :=
  ⟨asked_asks _ _ _ (by decide), by decide +kernel, rfl, .inl rfl⟩

theorem meets_OnlyFrameArrivalsMoveTheFrameCounter :
    (∃ t, exec .internalSourceExpiry State.reset = .next t) ∧ (∃ t, exec .powerOnReset State.reset = .next t) ∧
    ∃ t, exec (.panelLineRelease 3 .hold) State.reset = .next t := ⟨⟨_, rfl⟩, ⟨_, rfl⟩, ⟨_, rfl⟩⟩

theorem meets_WarmResetKeepsTheClockAndTheMap :
    ({ State.reset with pins := { Pins.released with reset := true } }).pins.reset = true ∧ State.reset.pins.reset = false :=
  ⟨rfl, rfl⟩

theorem meets_StatusTransactionReadsTheStatusByte :
    (State.reset.pins.reset = false ∧ State.reset.ctl.Ok) ∧ (none : Option Byte) = none :=
  ⟨⟨rfl, by decide, by decide⟩, rfl⟩

theorem meets_WriteTransactionQueuesItsRequest :
    (State.reset.pins.reset = false ∧ ([] : List Byte).length = (0#8).toNat) ∧
    (([0x20#8, 1#8] : List Byte).length < 3) ∧
    (∃ kind tag length payload, [0x20#8, 1#8, 2#8, 0#8] = kind :: tag :: length :: payload ∧
      payload.length < BitVec.toNat (w := 8) length) :=
  ⟨⟨rfl, rfl⟩, by decide, _, _, _, _, rfl, by decide⟩

theorem meets_ReadTransactionSendsTheOldestResponse :
    (State.reset.pins.reset = false ∧ State.reset.ctl.responses = []) ∧
    ({ State.reset with ctl := { State.reset.ctl with responses := [⟨1, 0, [0, 7]⟩] } }).ctl.responses =
      ⟨1, 0, [0, 7]⟩ :: [] := ⟨⟨rfl, rfl⟩, rfl⟩

theorem meets_PulsesAndReleases :
    let s : State := { State.reset with dev := { State.reset.dev with
      env := { State.reset.dev.env with cfg := { State.reset.dev.env.cfg with attnMode := .pulse } }
      world := { World.reset with pulse := { phase := .gap, pending := 1 } } } }
    s.pins.reset = false ∧ s.dev.env.cfg.attnMode = .pulse ∧ s.dev.world.pulse.phase = .gap ∧ 0 < s.dev.world.pulse.pending :=
  ⟨rfl, rfl, rfl, by decide⟩

/-- INSERT of key 9 in lane 0: at the bottom as a copy of item 7, above item 8, and aside as the standby item. -/
def insertBottom : List Byte := [0, 9, 0, 1, 0, 0, 0, 0, 0, 0, 0, 0, 1, 0, 7]
def insertAbove : List Byte := [0, 9, 0, 1, 0, 8, 0, 0, 0, 0, 0, 0, 0]
def insertAside : List Byte := [0, 9, 0, 2, 1, 2, 0x41, 0x42, 0, 0, 0, 1, 0, 0, 5, 0, 0, 5, 1, 31, 31, 0, 0, 0, 0]
def insertOf (p : Position) (src : Option Nat) : InsertReq :=
  { key := 9, lane := 0, position := p, label := none, planned := none, endMode := none, dropPriority := none, absorber := none
    cycle := none, source := src }

theorem meets_InsertCreatesTheItem :
    ((asked 0x10#8 insertBottom two).Asks 0x10#8 1#8 insertBottom [] ∧
      readAll readInsert insertBottom = some (insertOf (.before 0) (some 7)) ∧ place? 4 0 = some 0 ∧
      two.dev.world.store.item? 7 = some (item 0 7 [clipEl 0]) ∧ endModeFits [clipEl 0] .manual = true ∧
      two.dev.world.store.item? 9 = none ∧ two.dev.world.store.freeItems = ⟨2, 0⟩ :: freshRecords 3 509 ∧
      [clipEl 0].length ≤ two.dev.world.store.freeElements.length) ∧
    ((asked 0x10#8 insertAbove two).Asks 0x10#8 1#8 insertAbove [] ∧
      readAll readInsert insertAbove = some (insertOf (.before 8) none) ∧ 8 ∈ two.dev.world.store.orders.get 0 ∧
      ∃ b, two.dev.world.store.item? 8 = some b ∧ b.lane = 0 ∧ b.place = .order) ∧
    ((asked 0x10#8 insertAside two).Asks 0x10#8 1#8 insertAside [] ∧
      readAll readInsert insertAside = some { insertOf .standby none with
        label := some [0x41, 0x42], absorber := some (5, 5), cycle := some (31, 31, 0) } ∧
      [0x41#8, 0x42#8].all isPrintable = true ∧ two.dev.world.store.standbys.get 0 = none) := by
  refine ⟨⟨asked_asks _ _ _ (by decide), by decide +kernel, rfl, rfl, rfl, rfl, rfl, by decide +kernel⟩,
    ⟨asked_asks _ _ _ (by decide), by decide +kernel, by decide +kernel, _, rfl, rfl, rfl⟩,
    ⟨asked_asks _ _ _ (by decide), by decide +kernel, by decide, rfl⟩⟩

/-- AMEND of item 7 with its rev, a planned duration and an absorber field, of one that is ON_AIR, and of nothing. -/
def amendAll : List Byte := [0, 7, 1, 0, 0, 1, 0, 0, 50, 0, 0, 1, 0, 0, 9, 0, 0, 9, 2]
def amendNone : List Byte := [0, 7, 0, 0, 0, 0, 0, 0, 0]

theorem meets_AmendWritesTheFieldsItCarries :
    ((asked 0x11#8 amendAll two).Asks 0x11#8 1#8 amendAll [] ∧
      readAll readAmend amendAll = some { key := 7, rev := some 0, label := none, planned := some 50, endMode := none, dropPriority := none, absorber := .given (9, 9), cycle := .word } ∧
      two.dev.world.store.item? 7 = some (item 0 7 [clipEl 0]) ∧ two.dev.world.store.Ok ∧ (0 : BitVec 8).toNat = 0 ∧
      endModeFits [clipEl 0] .manual = true ∧ (item 0 7 [clipEl 0]).state ≠ .onAir) ∧
    ((asked 0x11#8 amendNone two).Asks 0x11#8 1#8 amendNone [] ∧
      readAll readAmend amendNone = some { key := 7, rev := none, label := none, planned := none, endMode := none, dropPriority := none, absorber := .absent, cycle := .absent }) :=
  ⟨⟨asked_asks _ _ _ (by decide), by decide +kernel, rfl, (store2_ok _ _ (by decide) (by decide)).1, rfl, rfl, by decide⟩,
    ⟨asked_asks _ _ _ (by decide), by decide +kernel⟩⟩

/-- MOVE of item 8 above item 7, and of both to the bottom of lane 3. -/
theorem meets_MoveCarriesTheRun :
    ((asked 0x12#8 [0, 8, 1, 0, 0, 7] two).Asks 0x12#8 1#8 [0, 8, 1, 0, 0, 7] [] ∧
      readAll readMove [0#8, 8, 1, 0, 0, 7] = some { first := 8, count := 1, lane := 0, before := 7 } ∧
      two.dev.world.store.Ok ∧ two.dev.world.store.Placed ∧
      two.dev.world.store.item? 8 = some (item 1 8 [clipEl 1]) ∧ two.dev.world.store.orders.get 0 = [7] ++ [8] ++ [] ∧
      7 ∈ two.dev.world.store.orders.get 0 ∧ 7 ∉ [8]) ∧
    ((asked 0x12#8 [0, 7, 2, 3, 0, 0] two).Asks 0x12#8 1#8 [0, 7, 2, 3, 0, 0] [] ∧
      readAll readMove [0#8, 7, 2, 3, 0, 0] = some { first := 7, count := 2, lane := 3, before := 0 } ∧
      place? 4 3 = some 3 ∧ two.dev.world.store.orders.get 0 = [] ++ [7, 8] ++ [] ∧ [7, 8].length = max 1 2 ∧
      ∀ k i, k ∈ [7, 8] → two.dev.world.store.item? k = some i → i.state = .pending ∨ i.state = .next) := by
  refine ⟨⟨asked_asks _ _ _ (by decide), by decide +kernel, (store2_ok _ _ (by decide) (by decide)).1,
    (store2_ok _ _ (by decide) (by decide)).2, rfl, rfl, by decide +kernel, by decide⟩,
    ⟨asked_asks _ _ _ (by decide), by decide +kernel, rfl, rfl, rfl, ?_⟩⟩
  intro k i hk hi
  simp only [List.mem_cons, List.not_mem_nil, or_false] at hk
  rcases hk with rfl | rfl
  · obtain rfl := Option.some.inj (hi.symm.trans (show two.dev.world.store.item? 7 = some (item 0 7 [clipEl 0]) from rfl))
    exact .inl rfl
  · obtain rfl := Option.some.inj (hi.symm.trans (show two.dev.world.store.item? 8 = some (item 1 8 [clipEl 1]) from rfl))
    exact .inl rfl

/-- The two items with item 7 changed. -/
def twoWith (f : Item → Item) : State := withWorld (fun w => w.setStore (storeOf [f (item 0 7 [clipEl 0]), item 1 8 [clipEl 1]] 2))

theorem meets_FloatAndRestoreSetTheDisposition :
    let floated := twoWith (fun it => { it with disposition := .floated })
    readAll (readNat 2) [0#8, 7] = some 7 ∧
    ((asked 0x13#8 [0, 7] floated).Asks 0x13#8 1#8 [0, 7] [] ∧ (asked 0x14#8 [0, 7] floated).Asks 0x14#8 1#8 [0, 7] [] ∧
      floated.dev.world.store.item? 7 = some { item 0 7 [clipEl 0] with disposition := .floated } ∧
      (item 0 7 [clipEl 0]).state ≠ .onAir) ∧
    ((asked 0x13#8 [0, 7] two).Asks 0x13#8 1#8 [0, 7] [] ∧ (asked 0x14#8 [0, 7] two).Asks 0x14#8 1#8 [0, 7] [] ∧
      two.dev.world.store.item? 7 = some (item 0 7 [clipEl 0]) ∧ (item 0 7 [clipEl 0]).state ≠ .onAir ∧
      (item 0 7 [clipEl 0]).disposition = .inOrder) :=
  ⟨rfl, ⟨asked_asks _ _ _ (by decide), asked_asks _ _ _ (by decide), rfl, by decide⟩,
    ⟨asked_asks _ _ _ (by decide), asked_asks _ _ _ (by decide), rfl, by decide, rfl⟩⟩

theorem meets_KillAndRetireFreeItems :
    let s := twoWith (fun it => { it with state := .done })
    ((asked 0x15#8 [0, 7] two).Asks 0x15#8 1#8 [0, 7] [] ∧ readAll (readNat 2) [0#8, 7] = some 7 ∧
      two.dev.world.store.item? 7 = some (item 0 7 [clipEl 0]) ∧ (item 0 7 [clipEl 0]).state ≠ .onAir) ∧
    ((asked 0x16#8 [0, 0, 0] s).Asks 0x16#8 1#8 [0, 0, 0] [] ∧ readAll readLaneKey [0#8, 0, 0] = some (0, 0) ∧
      s.dev.world.store.Ok ∧ s.dev.world.store.Placed ∧ s.dev.world.store.orders.get 0 = [7, 8] ++ []) ∧
    ((asked 0x16#8 [0, 0, 7] s).Asks 0x16#8 1#8 [0, 0, 7] [] ∧ readAll readLaneKey [0#8, 0, 7] = some (0, 7) ∧
      s.dev.world.store.orders.get 0 = [7] ++ [8] ∧ [7].getLast? = some 7) :=
  ⟨⟨asked_asks _ _ _ (by decide), rfl, rfl, by decide⟩,
    ⟨asked_asks _ _ _ (by decide), rfl, (store2_ok _ _ (by decide) (by decide)).1, (store2_ok _ _ (by decide) (by decide)).2, rfl⟩,
    ⟨asked_asks _ _ _ (by decide), rfl, rfl, rfl⟩⟩

/-- An element block that names a gating CUE, and one that carries nothing. -/
def gatingCue : List Byte := [1, 4, 0, 0, 0, 0, 0, 0, 0, 1, 1]
def noFields : List Byte := [0, 0, 0, 0, 0, 0, 0, 0, 0]
def elemOf (kind : Option Nat) (gating : Option Bool) : ElemReq :=
  { kind, device := none, station := none, offset := none, clipId := none, template := none, dataRef := none, lead := none, gating }

theorem meets_AddelAndDelelChangeTheList :
    let p : List Byte := [0, 7, 1, 1, 4, 0, 0, 0, 0, 0, 0, 0, 1, 1]
    ((asked 0x18#8 p two).Asks 0x18#8 1#8 p [] ∧ readAll readAddel p = some (7, 1, elemOf (some 4) (some true)) ∧
      (elemOf (some 4) (some true)).inRange = true ∧
      (elemOf (some 4) (some true)).content (.clip 0 0) = some (.cue 0 0 true) ∧ (item 0 7 [clipEl 0]).gating? = none ∧
      two.dev.world.store.item? 7 = some (item 0 7 [clipEl 0]) ∧ 1 ≤ (item 0 7 [clipEl 0]).elements.length ∧
      two.dev.world.store.freeElements = ⟨2, 0⟩ :: freshRecords 3 4093) ∧
    ((asked 0x1A#8 [0, 7, 0] two).Asks 0x1A#8 1#8 [0, 7, 0] [] ∧ readAll readDelel [0#8, 7, 0] = some (7, 0) ∧
      (item 0 7 [clipEl 0]).elements[0]? = some (clipEl 0)) :=
  ⟨⟨asked_asks _ _ _ (by decide), by decide +kernel, by decide, by decide, rfl, rfl, by decide, rfl⟩,
    ⟨asked_asks _ _ _ (by decide), rfl, rfl⟩⟩

theorem meets_SetelRewritesOneElement :
    let p : List Byte := [0, 7, 0, 1, 1, 0, 0, 0, 0, 0, 0, 0, 0]
    let p0 : List Byte := [0, 7, 0, 0, 0, 0, 0, 0, 0, 0, 0, 0]
    two.dev.world.store.item? 7 = some (item 0 7 [clipEl 0]) ∧ (item 0 7 [clipEl 0]).elements[0]? = some (clipEl 0) ∧
    ((asked 0x19#8 p two).Asks 0x19#8 1#8 p [] ∧ readAll readAddel p = some (7, 0, elemOf (some 1) none) ∧
      (elemOf (some 1) none).content (clipEl 0).content = some (.clipStop 0) ∧ Content.clipStop 0 ≠ (clipEl 0).content) ∧
    ((asked 0x19#8 p0 two).Asks 0x19#8 1#8 p0 [] ∧ readAll readAddel p0 = some (7, 0, elemOf none none) ∧
      (elemOf none none).content (clipEl 0).content = some (clipEl 0).content) :=
  ⟨rfl, rfl, ⟨asked_asks _ _ _ (by decide), by decide +kernel, by decide, by decide⟩,
    ⟨asked_asks _ _ _ (by decide), by decide +kernel, by decide⟩⟩

theorem meets_StampGivesEachChosenItemACopy :
    let p : List Byte := [0, 0, 0, 32, 8, 1, 3, 0, 0, 0, 0, 0, 0, 0, 0]
    (asked 0x1B#8 p two).Asks 0x1B#8 1#8 p [] ∧
    readAll readStamp p = some { lane := 0, start := 0, count := 32, stride := 8, elem := elemOf (some 3) none } ∧
    (elemOf (some 3) none).inRange = true ∧ (elemOf (some 3) none).content (.clip 0 0) = some (.gfxOut 0 0) ∧
    two.dev.world.store.Ok ∧ two.dev.world.store.Placed ∧ two.dev.world.store.orders.get 0 = [] ++ [7, 8] ++ [] ∧
    [7, 8].length ≤ max 1 32 ∧ 1 ≤ two.dev.world.store.freeElements.length :=
  ⟨asked_asks _ _ _ (by decide), by decide +kernel, by decide, by decide, (store2_ok _ _ (by decide) (by decide)).1,
    (store2_ok _ _ (by decide) (by decide)).2, rfl, by decide, by decide +kernel⟩

/-! Clock -/

theorem meets_RateConvertsTheClock :
    ((asked 0x30#8 [4] State.reset).Asks 0x30#8 1#8 [4] [] ∧ readAll readByte [4#8] = some 4 ∧ 3 < 4) ∧
    ((asked 0x30#8 [3] State.reset).Asks 0x30#8 1#8 [3] [] ∧ readAll readByte [3#8] = some 3 ∧ rate? 3 = some .r5994 ∧
      (∀ l, (State.reset.dev.world.lane l).state = .idle) ∧ Rate.r5994 ≠ State.reset.dev.env.ref.rate) ∧
    ((asked 0x30#8 [0] State.reset).Asks 0x30#8 1#8 [0] [] ∧ readAll readByte [0#8] = some 0 ∧
      rate? 0 = some State.reset.dev.env.ref.rate) ∧
    ((withWorld (fun w => w.setLane 3 { LaneRec.reset with state := .standby })).dev.world.lane 3).state ≠ .idle ∧
    ∃ t, exec .warmReset State.reset = .next t :=
  ⟨⟨asked_asks _ _ _ (by decide), rfl, by decide⟩, ⟨asked_asks _ _ _ (by decide), rfl, rfl, by decide, by decide⟩,
    ⟨asked_asks _ _ _ (by decide), rfl, rfl⟩, by decide, _, rfl⟩

theorem meets_ClockAndTargetRequestsWriteTheirSettings :
    let on := withRef (fun r => { r with enabled := true, state := .locked, acquired := 16, internal := none, missingTimer := true })
    ((asked 0x31#8 [0, 1, 16] on).Asks 0x31#8 1#8 [0, 1, 16] [] ∧
      readAll readRefcfg [0#8, 1, 16] = some { enable := false, check := true, slipCount := 16 }) ∧
    ((asked 0x32#8 [23, 59, 59, 24] State.reset).Asks 0x32#8 1#8 [23, 59, 59, 24] [] ∧
      readAll readLabel [23#8, 59, 59, 24] = some ⟨23, 59, 59, 24⟩ ∧ Rate.r25.reads ⟨23, 59, 59, 24⟩ = true ∧
      Rate.r25.reads ⟨24, 0, 0, 0⟩ = false) ∧
    ((asked 0x38#8 [3, 1, 0, 0, 0, 0] State.reset).Asks 0x38#8 1#8 [3, 1, 0, 0, 0, 0] [] ∧
      readAll (readLaneField readLabel) [3#8, 1, 0, 0, 0, 0] = some (3, .given ⟨0, 0, 0, 0⟩) ∧ place? 4 3 = some 3 ∧
      Rate.r25.reads ⟨0, 0, 0, 0⟩ = true) ∧
    ((asked 0x38#8 [0, 2] State.reset).Asks 0x38#8 1#8 [0, 2] [] ∧
      readAll (readLaneField readLabel) [0#8, 2] = some (0, .word)) ∧
    ((asked 0x39#8 [0, 1, 128, 0, 0] State.reset).Asks 0x39#8 1#8 [0, 1, 128, 0, 0] [] ∧
      readAll (readLaneField readSigned) [0#8, 1, 128, 0, 0] = some (0, .given (-8388608)) ∧ place? 4 0 = some 0) :=
  ⟨⟨asked_asks _ _ _ (by decide), rfl⟩, ⟨asked_asks _ _ _ (by decide), by decide +kernel, by decide, by decide⟩,
    ⟨asked_asks _ _ _ (by decide), by decide +kernel, rfl, by decide⟩, ⟨asked_asks _ _ _ (by decide), rfl⟩,
    ⟨asked_asks _ _ _ (by decide), by decide +kernel, rfl⟩⟩

/-- A locked reference, its label check on, with the mismatch count given. -/
def locked (mismatch : Nat) : State := withRef (fun r => { r with
  enabled := true, labelCheck := true, state := .locked, acquired := 16, missingTimer := true, pulseAccepted := true
  internal := none, mismatch })

theorem meets_FrameArrivalsMoveTheClock :
    ((locked 0).dev.env.ref.internal = none ∧ State.reset.dev.env.ref.internal.isSome ∧
      State.reset.dev.env.ref.pendingLabel = none ∧
      (let s := withRef (fun r => { r with pendingLabel := some ⟨23, 59, 59, 24⟩ })
       s.dev.env.ref.pendingLabel = some ⟨23, 59, 59, 24⟩ ∧ s.dev.env.ref.rate.read ⟨23, 59, 59, 24⟩ = some 2159999)) ∧
    (let r := (locked 2).dev.env.ref
     r.enabled = true ∧ r.state = .locked ∧ r.pulseAccepted = true ∧ r.rate.period ≤ 2400 * 2 ∧ r.labelCheck = true ∧
      r.pendingLabel = none ∧ r.rate.read ⟨0, 0, 0, 1⟩ = some ((r.t + 1) % r.rate.day) ∧
      r.rate.read ⟨0, 0, 0, 2⟩ = some 2 ∧ 2 ≠ (r.t + 1) % r.rate.day ∧ r.slipCount ≤ r.mismatch + 1) ∧
    (locked 1).dev.env.ref.mismatch + 1 < (locked 1).dev.env.ref.slipCount := by
  refine ⟨⟨rfl, rfl, rfl, rfl, by decide +kernel⟩, ⟨rfl, rfl, rfl, by decide, rfl, rfl, by decide +kernel, by decide +kernel,
    by decide +kernel, by decide⟩, by decide⟩

theorem meets_PulsesMoveTheReferenceState :
    let acq := fun n : Nat => (withRef (fun r => { r with
      enabled := true, state := .acquiring, acquired := n, missingTimer := true, pulseAccepted := true })).dev.env.ref
    State.reset.dev.env.ref.enabled = false ∧
    ((locked 0).dev.env.ref.state ≠ .acquiring ∧ (locked 0).dev.env.ref.pulseAccepted = true ∧
      2399 * 2 < (locked 0).dev.env.ref.rate.period ∧ ¬2400 * 2 < (locked 0).dev.env.ref.rate.period) ∧
    ((acq 15).enabled = true ∧ (acq 15).state = .acquiring ∧ (acq 15).acquired = 15 ∧ (acq 15).pendingLabel = none ∧
      (acq 15).labelCheck = false ∧ (acq 15).missingTimer = true ∧ (acq 15).pulseAccepted = true ∧
      2399 * 2 < (acq 15).rate.period) ∧
    ((acq 14).state = .acquiring ∧ (acq 14).acquired < 15) ∧
    (let r := (withRef (fun r => { r with enabled := true })).dev.env.ref
     r.enabled = true ∧ r.pulseAccepted = false ∧ r.state = .freeRun ∧ r.missingTimer = false) ∧
    ((locked 0).dev.env.ref.missingTimer = true ∧ (locked 0).dev.env.ref.state = .locked ∧
      (locked 0).dev.env.ref.pendingLabel = none) := by decide

/-! Lanes -/

/-- The two items with lane 0 as given. -/
def onLane (f : Item → Item) (g : LaneRec → LaneRec) : State :=
  let s := twoWith f
  { s with dev := { s.dev with world := s.dev.world.setLane 0 (g LaneRec.reset) } }

theorem meets_StartMakesTheFirstIncludedItemNext :
    (asked 0x40#8 [0] two).Asks 0x40#8 1#8 [0] [] ∧ readAll readByte [0#8] = some 0 ∧ place? 4 0 = some 0 ∧
    ((onLane id (fun r => { r with state := .standby })).dev.world.lane 0).state ≠ .idle ∧
    (two.dev.world.lane 0).state = .idle ∧ (two.dev.world.lane 0).Ok ∧
    ((two.dev.world.store.included 0 (two.dev.world.lane 0).cursor).head?).map (·.key) = some 7 :=
  ⟨asked_asks _ _ _ (by decide), rfl, rfl, by decide, by decide, by intro _; decide, by decide +kernel⟩

/-- Lane 0 RUNNING with item 7 on air and item 8 NEXT. -/
def airing : State :=
  let s := withWorld (fun w => w.setStore (storeOf [{ item 0 7 [clipEl 0] with state := .onAir, start := some ⟨0, ⟨0, 0, 0, 0⟩⟩, effPlanned := some 100 },
    { item 1 8 [clipEl 1] with state := .next }] 2))
  { s with dev := { s.dev with world := s.dev.world.setLane 0 { LaneRec.reset with
    state := .running, onAir := some 7, cursor := some 7, next := some 8, lastTake := some 0 } } }

theorem meets_StopTakesALaneOffAir :
    (asked 0x41#8 [0] airing).Asks 0x41#8 1#8 [0] [] ∧ readAll readByte [0#8] = some 0 ∧ place? 4 0 = some 0 ∧
    (two.dev.world.lane 0).state = .idle ∧ (airing.dev.world.lane 0).state ≠ .idle ∧
    (airing.dev.world.lane 0).onAir = some 7 ∧ (airing.dev.world.lane 0).next = some 8 ∧
    (∃ old, airing.dev.world.item? 7 = some old ∧ old.place = .order) ∧
    (∃ it, airing.dev.world.item? 8 = some it ∧ it.state = .next) ∧
    airing.dev.world.store.Ok ∧ airing.dev.world.store.Placed :=
  ⟨asked_asks _ _ _ (by decide), rfl, rfl, by decide, by decide, rfl, rfl, ⟨_, rfl, rfl⟩, ⟨_, rfl, rfl⟩,
    (store2_ok _ _ (by decide) (by decide)).1, (store2_ok _ _ (by decide) (by decide)).2⟩

theorem meets_TakePutsNextOnAir :
    let guard := fun (s : State) => ∀ t, (s.dev.world.lane 0).lastTake = some t →
      ((s.dev.env.cfg.lanes.get 0).takeGuard : Int) ≤ fcDist t s.dev.env.ref.fc
    let late := { airing with dev := { airing.dev with env := { airing.dev.env with ref := { airing.dev.env.ref with fc := 10 } } } }
    ((asked 0x42#8 [0, 0] airing).Asks 0x42#8 1#8 [0, 0] [] ∧ readAll readTake [0#8, 0] = some (0, none) ∧
      (asked 0x42#8 [0, 1, 0, 7] airing).Asks 0x42#8 1#8 [0, 1, 0, 7] [] ∧ readAll readTake [0#8, 1, 0, 7] = some (0, some 7) ∧
      (airing.dev.world.lane 0).state ≠ .idle ∧ some 7 ≠ (airing.dev.world.lane 0).next) ∧
    ((onLane id (fun r => { r with state := .standby })).dev.world.lane 0).next = none ∧
    (¬guard airing) ∧ guard late ∧
    ((late.dev.world.lane 0).next = some 8 ∧ (∃ it, late.dev.world.item? 8 = some it ∧ it.state = .next) ∧
      (late.dev.world.lane 0).onAir ≠ some 8 ∧ late.pins.take.get 0 = false ∧
      late.dev.world.store.Ok ∧ late.dev.world.store.Placed) ∧
    (State.reset.pins.line 0 .take true).take.get 0 = true := by
  refine ⟨⟨asked_asks _ _ _ (by decide), rfl, asked_asks _ _ _ (by decide), rfl, by decide, by decide⟩, rfl, ?_, ?_,
    ⟨rfl, ⟨_, rfl, rfl⟩, by decide, rfl, (store2_ok _ _ (by decide) (by decide)).1, (store2_ok _ _ (by decide) (by decide)).2⟩, rfl⟩
  · intro h; exact absurd (h 0 rfl) (by decide)
  · intro t h; obtain rfl := Option.some.inj (show some (0 : Fc) = some t from h); decide

theorem meets_HoldAndResumeMoveOperator :
    let held := onLane id (fun r => { r with state := .standby, operator := true })
    readAll readByte [0#8] = some 0 ∧ place? 4 0 = some 0 ∧ (asked 0x43#8 [0] airing).Asks 0x43#8 1#8 [0] [] ∧
    (asked 0x44#8 [0] held).Asks 0x44#8 1#8 [0] [] ∧ (two.dev.world.lane 0).state = .idle ∧
    ((airing.begun.world.lane 0).state ≠ .idle ∧ (airing.begun.world.lane 0).operator = false ∧ airing.pins.hold.get 0 = false) ∧
    ((held.begun.world.lane 0).state ≠ .idle ∧ (held.begun.world.lane 0).operator = true ∧
      World.autoDue held.dev.env held.begun.world 0 = false) ∧
    (State.reset.pins.line 0 .hold true).hold.get 0 = true :=
  ⟨rfl, rfl, asked_asks _ _ _ (by decide), asked_asks _ _ _ (by decide), rfl, by decide, ⟨by decide, rfl, by decide +kernel⟩, rfl⟩

theorem meets_LanecfgWritesTheSettingsItCarries :
    let p : List Byte := [3, 1, 2, 0, 0, 1, 51, 0, 0, 0, 1, 3, 63, 0, 63]
    let none9 : List Byte := [0, 0, 0, 0, 0, 0, 0, 0, 0]
    ((asked 0x45#8 p State.reset).Asks 0x45#8 1#8 p [] ∧
      readAll readLanecfg p = some { lane := 3, fitMode := some 2, lockWindow := none, lateTolerance := none, takeGuard := some 51, doneRetain := none, gateTimeout := none, noNextWarn := none, safeList := some [63, 0, 63] } ∧
      place? 4 3 = some 3 ∧ fitMode? 2 = some .auto ∧ [63, 0, 63].length ≤ 8 ∧ ∀ n ∈ [63, 0, 63], n < 64) ∧
    ((asked 0x45#8 none9 State.reset).Asks 0x45#8 1#8 none9 [] ∧
      readAll readLanecfg none9 = some { lane := 0, fitMode := none, lockWindow := none, lateTolerance := none, takeGuard := none, doneRetain := none, gateTimeout := none, noNextWarn := none, safeList := none }) :=
  ⟨⟨asked_asks _ _ _ (by decide), by decide +kernel, rfl, rfl, by decide, by decide⟩,
    asked_asks _ _ _ (by decide), by decide +kernel⟩

theorem meets_ClearlaneEmptiesAnIdleLane :
    (asked 0x46#8 [0] two).Asks 0x46#8 1#8 [0] [] ∧ readAll readByte [0#8] = some 0 ∧ place? 4 0 = some 0 ∧
    (airing.dev.world.lane 0).state ≠ .idle ∧ (two.dev.world.lane 0).state = .idle ∧ (two.dev.world.lane 0).Ok ∧
    two.dev.world.store.Ok ∧ two.dev.world.store.Placed :=
  ⟨asked_asks _ _ _ (by decide), rfl, rfl, by decide, rfl, by intro _; decide,
    (store2_ok _ _ (by decide) (by decide)).1, (store2_ok _ _ (by decide) (by decide)).2⟩

theorem meets_GateTimeoutAndLastTakeTests :
    let waiting := fun (n : Nat) (due : Fc) => onLane (fun it => { it with state := .onAir, elements := [cueEl 0 true] }) (fun r => { r with
      state := .waiting, gate := true, gateDue := some due, onAir := some 7, gateTick := some n, lastTick := true, lastTake := some (-51) })
    let r := fun s : State => s.begun.world.lane 0
    (r State.reset).gateTick = none ∧ (r State.reset).lastTick = false ∧
    ((r (waiting 5 (-5))).gateTick = some 5 ∧ (r (waiting 5 (-5))).state = .waiting ∧ (r (waiting 5 (-5))).gateDue = some (-5) ∧
      (5 : Int) ≤ fcDist (-5) (waiting 5 (-5)).dev.env.ref.fc ∧
      ∃ it, (waiting 5 (-5)).begun.world.onAirItem? 0 = some it ∧ it.place = .order) ∧
    ((r (waiting 5 (-4))).gateTick = some 5 ∧
      ∀ due, (r (waiting 5 (-4))).gateDue = some due → fcDist due (waiting 5 (-4)).dev.env.ref.fc < (5 : Nat)) ∧
    ((r (waiting 5 0)).lastTick = true ∧ (r (waiting 5 0)).lastTake = some (-51)) := by
  refine ⟨rfl, rfl, ⟨rfl, rfl, rfl, by decide, _, rfl, rfl⟩, ⟨rfl, ?_⟩, rfl, rfl⟩
  intro due h; obtain rfl := Option.some.inj (show some (-4 : Fc) = some due from h); decide

/-! The map and the ports -/

/-- Device 63 is VALID PLAYOUT at port 7's channel 7, with a backup at port 0's channel 0, and in use by item 7 where `c` says so. -/
def mapped (c : Option Claim) : State := withWorld (fun w => { w with map := w.map.set 63 {
  valid := true, cls := .playout, main := ⟨7, 7⟩, backup := some ⟨0, 0⟩, active := .main, autoFailover := true, preroll := 0, claim := c, waiters := [] } })

theorem meets_MapWritesOneEntry :
    let v : List Byte := [0, 1, 1, 7, 6, 2, 1, 0xFF, 0xFF]
    let vb : List Byte := [63, 1, 0, 0, 0, 1, 7, 7, 0, 0, 0]
    (asked 0x50#8 [63, 0] (mapped none)).Asks 0x50#8 1#8 [63, 0] [] ∧ readAll readMap [63#8, 0] = some (63, .read) ∧
    place? 64 63 = some 63 ∧ readAll readMap [63#8, 2] = some (63, .invalid) ∧
    (asked 0x50#8 [63, 2] (mapped none)).Asks 0x50#8 1#8 [63, 2] [] ∧
    (let old := (mapped (some ⟨0, [7]⟩)).dev.world.map.get 63
     old.cls = .playout ∧ old.claim ≠ none) ∧
    ((mapped none).dev.world.map.get 63).claim = none ∧
    ((asked 0x50#8 v (mapped none)).Asks 0x50#8 1#8 v [] ∧ readAll readMap v = some (0, .valid 1 (7, 6) none true 65535) ∧
      devClass? 1 = some .graphics ∧ target? (7, 6) = some ⟨7, 6⟩ ∧
      ∀ j, j ≠ 0 → ((mapped none).dev.world.map.get j).valid = true →
        ∀ t ∈ [(⟨7, 6⟩ : Target)], t ∉ ((mapped none).dev.world.map.get j).main :: ((mapped none).dev.world.map.get j).backup.toList) ∧
    ((asked 0x50#8 vb (mapped none)).Asks 0x50#8 1#8 vb [] ∧ readAll readMap vb = some (63, .valid 0 (0, 0) (some (7, 7)) false 0) ∧
      target? (7, 7) = some ⟨7, 7⟩ ∧ some (⟨7, 7⟩ : Target) ≠ some ⟨0, 0⟩ ∧
      ∀ j, j ≠ 63 → ((mapped none).dev.world.map.get j).valid = false) := by
  refine ⟨asked_asks _ _ _ (by decide), rfl, rfl, rfl, asked_asks _ _ _ (by decide), ⟨rfl, by decide⟩, rfl,
    ⟨asked_asks _ _ _ (by decide), by decide +kernel, rfl, rfl, ?_⟩, asked_asks _ _ _ (by decide), by decide +kernel, rfl, by decide, ?_⟩
  · intro j _ h t ht
    obtain rfl : j = 63 := by revert h; revert j; decide +kernel
    obtain rfl := List.mem_singleton.mp ht
    decide
  · decide +kernel

theorem meets_SideMovesTheActiveSide :
    let up := { mapped none with dev := { (mapped none).dev with world := (mapped none).dev.world.setPort 0 { Port.reset with state := .inService } } }
    (asked 0x51#8 [63, 1] up).Asks 0x51#8 1#8 [63, 1] [] ∧ readAll readSideReq [63#8, 1] = some (63, 1) ∧
    place? 64 63 = some 63 ∧ side? 1 = some .backup ∧ (State.reset.dev.world.map.get 63).valid = false ∧
    (let s := withWorld (fun w => { w with map := w.map.set 63 { MapEntry.invalid with valid := true } })
     (s.dev.world.map.get 63).valid = true ∧ (s.dev.world.map.get 63).backup = none) ∧
    ((up.dev.world.map.get 63).valid = true ∧ (up.dev.world.map.get 63).backup = some ⟨0, 0⟩ ∧
      (up.dev.world.ports.get 0).state = .inService ∧ (up.dev.world.map.get 63).active ≠ .backup) ∧
    ((up.dev.world.map.get 63).main = ⟨7, 7⟩ ∧ (up.dev.world.ports.get 7).state ≠ .inService) :=
  ⟨asked_asks _ _ _ (by decide), rfl, rfl, rfl, rfl, ⟨rfl, rfl⟩, ⟨rfl, rfl, rfl, by decide⟩, rfl, by decide⟩

/-- Port 7 with the record given. -/
def onPort (r : Port) : State := withWorld (fun w => w.setPort 7 r)

theorem meets_PortRequestsWriteThePortTheyName :
    let cfg : List Byte := [7, 1, 0, 1, 16, 0, 0, 1, 5, 1, 3, 2, 1, 0]
    place? 8 7 = some 7 ∧
    ((asked 0x58#8 cfg State.reset).Asks 0x58#8 1#8 cfg [] ∧
      readAll readPortcfg cfg = some { port := 7, ackTimeout := some 0, faultThreshold := some 16, recoverCount := none, probeInterval := none, burstLimit := some 5, precedence := some [3, 2, 1, 0] } ∧
      [3, 2, 1, 0] = ([3, 2, 1, 0] : List (Fin 4)).map (·.val) ∧ ([3, 2, 1, 0] : List (Fin 4)).Nodup) ∧
    ((asked 0x59#8 [7, 1] State.reset).Asks 0x59#8 1#8 [7, 1] [] ∧ readAll readPorten [7#8, 1] = some (7, true) ∧
      (asked 0x59#8 [7, 2] State.reset).Asks 0x59#8 1#8 [7, 2] [] ∧ readAll readPorten [7#8, 2] = some (7, false) ∧
      (State.reset.begun.world.ports.get 7).state = .down ∧
      ((onPort { Port.reset with state := .faulted, probeStart := some 0 }).begun.world.ports.get 7).state ≠ .down) ∧
    ((asked 0x5A#8 [7] State.reset).Asks 0x5A#8 1#8 [7] [] ∧ readAll readByte [7#8] = some 7 ∧
      ((onPort { Port.reset with state := .inService }).begun.world.ports.get 7).state = .inService ∧
      ((onPort { Port.reset with state := .faulted, probeStart := some 0 }).begun.world.ports.get 7).state = .faulted) :=
  ⟨rfl, ⟨asked_asks _ _ _ (by decide), by decide +kernel, by decide, by decide⟩,
    ⟨asked_asks _ _ _ (by decide), rfl, asked_asks _ _ _ (by decide), rfl, rfl, by decide⟩, asked_asks _ _ _ (by decide), rfl, rfl, rfl⟩

theorem meets_CueFramesJoinTheReceiveQueue :
    let m : RxMsg := { kind := 0x81#8, fields := [5] }
    let s := fun n => onPort { Port.reset with state := .inService, received := List.replicate n m }
    checkFrame [0xC3#8, 2, 0x81, 5, 0, 0] = none ∧ (List.replicate 39 (0 : Byte)).length < 40 ∧
    (State.reset.begun.world.ports.get 7).state = .down ∧
    (((s 3).begun.world.ports.get 7).state ≠ .down ∧ ((s 3).begun.world.ports.get 7).received.length < 4) ∧
    (((s 4).begun.world.ports.get 7).state ≠ .down ∧ 4 ≤ ((s 4).begun.world.ports.get 7).received.length) := by decide +kernel

/-- Port 7 holds the message `m` and, outstanding with seq 5, the message `x` for item 7's only element, whose load list entry stands. -/
def answering (m : RxMsg) (x : CueMsg) (el : Element) : State :=
  let s := onLane (fun it => { it with elements := [el] }) (fun r => { r with
    loadList := [{ ref := ⟨⟨0, 1#32⟩, ⟨0, 1#32⟩⟩, key := 7, device := 0, target := ⟨7, 0⟩, number := 3 }] })
  { s with dev := { s.dev with world := { s.dev.world with
    rolls := s.dev.world.rolls.set (Target.place ⟨7, 0⟩) (some ⟨0, ⟨⟨0, 1#32⟩, ⟨0, 1#32⟩⟩, 0, 3⟩)
    ports := s.dev.world.ports.set 7 { Port.reset with state := .inService, received := [m]
                                                       window := [{ seq := 5, msg := x, owner := some ⟨0, ⟨⟨0, 1#32⟩, ⟨0, 1#32⟩⟩, 0, 3⟩, sent := 0 }] } } } }

theorem meets_AnswersCompleteTheElementTheyName :
    let ow : Owner := ⟨0, ⟨⟨0, 1#32⟩, ⟨0, 1#32⟩⟩, 0, 3⟩
    let sent : Element := { clipEl 0 with fire := .sent }
    let a := answering ⟨0x81#8, [5]⟩ (.load 0 5) (clipEl 0)
    let b := answering ⟨0x82#8, [5, 3]⟩ (.roll 0) sent
    ((a.begun.world.ports.get 7).received = ⟨0x81#8, [5]⟩ :: [] ∧
      (∃ rc, (a.begun.world.ports.get 7).window.find? (fun x => decide (x.seq = 5#8)) = some rc ∧ rc.owner = some ow ∧ rc.msg.isLoad = true) ∧
      (∃ it, a.begun.world.store.elem? ow.ref = some (it, clipEl 0)) ∧
      ∃ x ∈ (a.begun.world.lane 0).loadList, x.ref = ow.ref ∧ x.number = ow.number) ∧
    ((b.begun.world.ports.get 7).received = ⟨0x82#8, [5, 3]⟩ :: [] ∧
      (∃ rc, (b.begun.world.ports.get 7).window.find? (fun x => decide (x.seq = 5#8)) = some rc ∧ rc.owner = some ow ∧ rc.msg.isLoad = false) ∧
      (∃ it, b.begun.world.store.elem? ow.ref = some (it, sent) ∧ it.cycle = none) ∧ sent.fire = .sent ∧ sent.pass = ow.pass) :=
  ⟨⟨rfl, ⟨_, rfl, rfl, rfl⟩, ⟨_, rfl⟩, ⟨_, .head _, rfl, rfl⟩⟩, rfl, ⟨_, rfl, rfl, rfl⟩, ⟨_, rfl, rfl⟩, rfl, rfl⟩

theorem meets_EndsAndDiscardsLeaveTheReceiveQueue :
    let timedOut : Element := { clipEl 0 with fire := .failed, failReason := some .timeout }
    let s := answering ⟨0x83#8, [0]⟩ .probe timedOut
    ((s.begun.world.ports.get 7).received = ⟨0x83#8, [0]⟩ :: [] ∧ [0#8] = [BitVec.ofNat 8 (0 : Fin 8).val] ∧
      s.begun.world.rolls.get (Target.place ⟨7, 0⟩) = some ⟨0, ⟨⟨0, 1#32⟩, ⟨0, 1#32⟩⟩, 0, 3⟩ ∧
      (∃ it, s.begun.world.store.elem? ⟨⟨0, 1#32⟩, ⟨0, 1#32⟩⟩ = some (it, timedOut)) ∧ (s.begun.world.lane 0).state ≠ .running) ∧
    (State.reset.begun.world.rolls.get (Target.place ⟨7, 7⟩) = none) ∧
    ((0x84#8 : Byte) ≠ 0x81#8 ∧ (0x84#8 : Byte) ≠ 0x82#8 ∧ (0x84#8 : Byte) ≠ 0x83#8) ∧
    ((answering ⟨0x81#8, [6]⟩ .probe timedOut).begun.world.ports.get 7).window.find? (fun x => decide (x.seq = 6#8)) = none :=
  ⟨⟨rfl, rfl, rfl, ⟨_, rfl⟩, by decide⟩, rfl, by decide, rfl⟩

theorem meets_AckTimeoutCompletesExpiredRecords :
    let rec1 : WinRec := { seq := 0, msg := .roll 0, owner := none, sent := -5 }
    let port := fun n => ({ Port.reset with state := .inService, window := [rec1], ackTick := some 5, failures := n } : Port)
    (State.reset.begun.world.ports.get 7).ackTick = none ∧
    (let r := (onPort { port 0 with window := [{ rec1 with sent := -4 }] }).begun.world.ports.get 7
     r.ackTick = some 5 ∧ r.window.filter (fun x => decide ((5 : Int) ≤ fcDist x.sent 0)) = []) ∧
    (let r := (onPort (port 2)).begun.world.ports.get 7
     r.ackTick = some 5 ∧ r.state = .inService ∧ r.Ok ∧ r.failures ≤ 15 ∧
      (State.reset.dev.env.cfg.ports.get 7).faultThreshold ≤ 15 ∧
      r.window.filter (fun x => decide ((5 : Int) ≤ fcDist x.sent 0)) = [rec1] ∧
      (State.reset.dev.env.cfg.ports.get 7).faultThreshold ≤ r.failures + 1) ∧
    1 + 1 < (State.reset.dev.env.cfg.ports.get 7).faultThreshold := by
  refine ⟨rfl, ⟨rfl, by decide⟩, ⟨rfl, rfl, ?_, by decide, by decide, by decide, by decide⟩, by decide⟩
  unfold Port.Ok; decide

theorem meets_ProbeTimerSendsAProbe :
    let port := fun n => ({ Port.reset with state := .faulted, probeStart := some 0, probeTick := some n } : Port)
    let late := { onPort (port 25) with dev := { (onPort (port 25)).dev with env := { State.reset.dev.env with ref := { RefUnit.reset with fc := 25 } } } }
    (State.reset.begun.world.ports.get 7).probeTick = none ∧
    (let r := (onPort (port 1)).begun.world.ports.get 7
     r.probeTick = some 1 ∧ r.state = .faulted ∧ r.probeStart = some 0 ∧ fcDist 0 (onPort (port 1)).dev.env.ref.fc < (1 : Nat)) ∧
    (let r := late.begun.world.ports.get 7
     r.probeTick = some 25 ∧ r.state = .faulted ∧ r.probeStart = some 0 ∧ r.priority = [] ∧ r.window.length < 4 ∧
      (25 : Int) ≤ fcDist 0 late.dev.env.ref.fc) :=
  ⟨rfl, ⟨rfl, rfl, rfl, by decide⟩, rfl, rfl, rfl, rfl, by decide, by decide⟩

/-! Stations -/

/-- Station 5 with the record given. -/
def atStation (r : Station) : State := withWorld (fun w => w.setStation 5 r)
/-- A standby cue of lane 0. -/
def standbyCue : StandbyCue :=
  { req := { lane := 0, key := 7, ref := ⟨⟨0, 1⟩, ⟨0, 1⟩⟩, label := [], distance := 25, handed := 0 }, countdown := 1, response := .none }

theorem meets_StationAssignsAndEmptiesItsSlots :
    (asked 0x60#8 [5, 0] State.reset).Asks 0x60#8 1#8 [5, 0] [] ∧ readAll readStation [5#8, 0] = some (5, .absent) ∧
    place? 6 5 = some 5 ∧ (asked 0x60#8 [5, 2] State.reset).Asks 0x60#8 1#8 [5, 2] [] ∧ readAll readStation [5#8, 2] = some (5, .word) ∧
    (asked 0x60#8 [5, 1, 3] State.reset).Asks 0x60#8 1#8 [5, 1, 3] [] ∧ readAll readStation [5#8, 1, 3] = some (5, .given 3) ∧
    place? 4 3 = some 3 ∧ (State.reset.begun.world.stations.get 5).lane = none ∧
    ((atStation { Station.reset with lane := some 0, standby := some standbyCue }).begun.world.stations.get 5).lane ≠ some 3 :=
  ⟨asked_asks _ _ _ (by decide), rfl, rfl, asked_asks _ _ _ (by decide), rfl, asked_asks _ _ _ (by decide), rfl, rfl, rfl, by decide⟩

theorem meets_CallAndAnswerMoveTheCallFlags :
    ((asked 0x61#8 [6, 1] State.reset).Asks 0x61#8 1#8 [6, 1] [] ∧ readAll readPorten [6#8, 1] = some (6, true) ∧
      (asked 0x62#8 [6] State.reset).Asks 0x62#8 1#8 [6] [] ∧ readAll readByte [6#8] = some 6 ∧ 5 < 6) ∧
    ((asked 0x61#8 [5, 1] State.reset).Asks 0x61#8 1#8 [5, 1] [] ∧ readAll readPorten [5#8, 1] = some (5, true) ∧
      place? 6 5 = some 5 ∧ (State.reset.begun.world.stations.get 5).callTo = false ∧
      readAll readPorten [5#8, 2] = some (5, false)) ∧
    ((asked 0x62#8 [5] State.reset).Asks 0x62#8 1#8 [5] [] ∧ readAll readByte [5#8] = some 5 ∧
      (State.reset.begun.world.stations.get 5).callFrom = false ∧
      ((atStation { Station.reset with callFrom := true }).begun.world.stations.get 5).callFrom = true) :=
  ⟨⟨asked_asks _ _ _ (by decide), rfl, asked_asks _ _ _ (by decide), rfl, by decide⟩,
    ⟨asked_asks _ _ _ (by decide), rfl, rfl, rfl, rfl⟩, asked_asks _ _ _ (by decide), rfl, rfl, rfl⟩

theorem meets_PresenceFollowsWhatIsHeard :
    let st := fun (present heard : Bool) =>
      (atStation { Station.reset with missed := 2, thirdMiss := true, present, heard }).begun.world.stations.get 5
    (checkFrame (linkFrame 0x21#8 [])).isSome ∧ checkFrame ([] : List Byte) = none ∧
    (State.reset.begun.world.stations.get 5).thirdMiss = false ∧
    ((st true false).thirdMiss = true ∧ (st true false).present = true ∧ (st true false).heard = false) ∧
    ((st true true).thirdMiss = true ∧ (st true true).heard = true) ∧ ((st false false).present = false) := by decide +kernel

theorem meets_ButtonsAnswerTheStandby :
    ((atStation { Station.reset with callTo := true }).begun.world.stations.get 5).callTo = true ∧
    ((State.reset.begun.world.stations.get 5).callTo = false ∧ (State.reset.begun.world.stations.get 5).standby = none) ∧
    (let s := atStation { Station.reset with standby := some standbyCue }
     (s.begun.world.stations.get 5).callTo = false ∧ (s.begun.world.stations.get 5).standby = some standbyCue ∧
      (s.begun.world.lane standbyCue.req.lane).state ≠ .waiting) := ⟨rfl, ⟨rfl, rfl⟩, rfl, rfl, by decide⟩

/-! Conditions -/

theorem meets_ConditionSettingsAreWritten :
    let th : List Byte := [3, 0, 1, 0, 0, 1, 0, 1, 255, 255]
    let ac : List Byte := [0, 2, 0, 3, 6, 0]
    ((asked 0x68#8 th State.reset).Asks 0x68#8 1#8 th [] ∧
      readAll readThresh th = some { lane := 3, overT := none, underT := some 0, count := some 0, hysteresis := some 65535 } ∧
      place? 4 3 = some 3) ∧
    ((asked 0x69#8 ac State.reset).Asks 0x69#8 1#8 ac [] ∧ readAll readActions ac = some (0, [(0, 3), (6, 0)]) ∧
      place? 4 0 = some 0 ∧ (∀ x ∈ [(0, 3), (6, 0)], x.1 < 7 ∧ x.2 ≤ 3) ∧ ([(0, 3), (6, 0)].map (·.1)).Nodup) ∧
    ((asked 0x69#8 [0, 1, 7, 0] State.reset).Asks 0x69#8 1#8 [0, 1, 7, 0] [] ∧
      readAll readActions [0#8, 1, 7, 0] = some (0, [(7, 0)]) ∧ ∃ x ∈ [(7, 0)], 7 ≤ x.1 ∨ 3 < x.2) ∧
    ((asked 0x70#8 [1, 0x08, 0x01, 1, 1] State.reset).Asks 0x70#8 1#8 [1, 0x08, 0x01, 1, 1] [] ∧
      readAll readAttncfg [1#8, 0x08, 0x01, 1, 1] = some (some 0x801, some 1) ∧ attnMode? 1 = some .pulse) ∧
    ((asked 0x70#8 [0, 0] State.reset).Asks 0x70#8 1#8 [0, 0] [] ∧ readAll readAttncfg [0#8, 0] = some (none, none)) :=
  ⟨⟨asked_asks _ _ _ (by decide), by decide +kernel, rfl⟩, ⟨asked_asks _ _ _ (by decide), by decide +kernel, rfl, by decide, by decide⟩,
    ⟨asked_asks _ _ _ (by decide), by decide +kernel, by decide⟩, ⟨asked_asks _ _ _ (by decide), by decide +kernel, rfl⟩,
    asked_asks _ _ _ (by decide), rfl⟩

theorem meets_CondreadClearsWhatHasEnded : (asked 0x6A#8 [] State.reset).Asks 0x6A#8 1#8 [] [] := asked_asks _ _ _ (by decide)

theorem meets_OverAndUnderCountAndClear :
    let on : Inst := { active := true, latched := true, count := 255 }
    (on.active = true ∧ (24 : Int) < (50 : Nat) - (25 : Nat) ∧ ((50 : Nat) : Int) - (25 : Nat) ≤ 25) ∧
    (Inst.clear.active = false ∧ (50 : Int) ≤ (50 : Nat) ∧ ((50 : Nat) : Int) < 51 ∧ 0 + 1 < 2 ∧ 2 ≤ 1 + 1) ∧
    (State.reset.dev.world.lane 0).state = .idle := by decide

/-! Computations -/

theorem meets_CountdownIsTheLeastSufficientSecond :
    26 * Rate.r25.period ≤ 2 * 120000 ∧ (-1 : Int) < 0 := by decide

theorem meets_LabelsAndFrameCountsNameEachOther :
    2159999 < Rate.r25.day ∧ Rate.r2997.reads ⟨0, 1, 0, 0⟩ = true := by decide +kernel

theorem meets_NumbersReadBackAsWritten : 65535 < 256 ^ 2 ∧ (⟨255, 255, 255, 255⟩ : Label).fitsBytes = true := by decide

theorem meets_LinkFramesPassTheirCheck :
    (List.replicate 39 (0 : Byte)).length < 40 ∧ 0xC3#8 ∉ ([0x55#8, 0x01#8] : List Byte) ∧
    checkFrame ([0x55#8, 0x01#8] ++ linkFrame 0x01#8 [5]) = some (0x01#8, [5]) := by decide +kernel

theorem meets_TimingResultFollowsTheRundown :
    let fill := { item 0 7 [clipEl 0] with absorber := some ⟨0, 500⟩ }
    let its := [fill, item 1 8 [clipEl 1]]
    let t := computeTiming State.reset.dev.env (some 300) LaneCfg.default none none its
    its = [] ++ fill :: [item 1 8 [clipEl 1]] ∧ (its.map (·.key)).Nodup ∧ fcDist State.reset.dev.env.ref.fc 300 ≠ -2147483648 ∧
    t.overA.isSome ∧ t.items.head?.map (·.back.isSome) = some true ∧
    (computeTiming State.reset.dev.env (some 300) LaneCfg.default none none items2).absorber = none := by decide +kernel

theorem meets_FitPlanTakesCandidatesInOrder :
    let its := [item 0 7 [], { item 1 8 [] with dropPriority := 1, planned := 400 }]
    let cfg := { LaneCfg.default with fitMode := .advise, lockWindow := 0 }
    let t := computeTiming State.reset.dev.env (some 100) cfg none none its
    t.overA = some 400 ∧ (0 : Int) < 400 ∧ cfg.fitMode ≠ .off ∧ t.plan = [8] ∧ t.residual = some 0 ∧
    (∃ o, (computeTiming State.reset.dev.env (some 600) cfg none none its).overA = some o ∧ o ≤ 0) := by
  refine ⟨by decide +kernel, by decide, by decide, by decide +kernel, by decide +kernel, -100, by decide +kernel, by decide⟩

theorem meets_ClaimsAreAnsweredByTheirHolder :
    ((mapped none).dev.world.map.get 63).claim = none ∧
    (let w := (mapped (some ⟨0, [7]⟩)).dev.world
     (w.map.get 63).claim = some ⟨0, [7]⟩ ∧ (⟨0, [7]⟩ : Claim).lane = 0 ∧ (⟨0, [7]⟩ : Claim).lane ≠ 3 ∧ (0 : Fin 64) ≠ 63) :=
  ⟨rfl, rfl, rfl, by decide, by decide⟩

theorem meets_SubmissionAndArbiterFillTheWindow :
    let q : Queued := ⟨.roll 0, ⟨0, ⟨⟨0, 1⟩, ⟨0, 1⟩⟩, 0, 0⟩⟩
    let up := fun n => (onPort { Port.reset with state := .inService, fifos := (Tbl.fill 4 []).set 0 (List.replicate n q) }).dev.world.ports.get 7
    (State.reset.dev.world.ports.get 7).state ≠ .inService ∧
    ((up 4).state = .inService ∧ 4 ≤ ((up 4).fifos.get q.owner.lane).length) ∧
    (((up 3).fifos.get q.owner.lane).length < 4) ∧ (up 4).Ok := by
  refine ⟨by decide, by decide, by decide, ?_⟩
  unfold Port.Ok; decide

/-! Invariants -/

/-- Meets the hypotheses of all four `EveryStepKeeps…` statements together, with a step that answers next. -/
theorem meets_EveryStepKeeps :
    let s : State := { State.reset with pending := [.alive 5] }
    s.dev.world.store.Ok ∧ s.dev.world.store.Placed ∧ (∀ p, (s.dev.world.ports.get p).Ok) ∧
    (∀ d, (s.dev.world.map.get d).Ok) ∧ (∀ l, (s.dev.world.lane l).Ok) ∧ s.dev.env.ref.Ok ∧ s.ctl.Ok ∧ ∃ t, step s = .next t := by
  refine ⟨⟨by decide, ?_, ?_⟩, ⟨?_, ?_, ?_⟩, ?_, ?_, ?_, ?_, ⟨by decide, by decide⟩, _, rfl⟩
  · show ((freshRecords 0 512).map (·.num)).Perm _
    rw [freshRecords_num]; exact List.Perm.of_eq (by rw [List.range_eq_range'])
  · show ((freshRecords 0 4096).map (·.num)).Perm _
    rw [freshRecords_num]; exact List.Perm.of_eq (by rw [List.range_eq_range'])
  · decide
  · intro l k
    have h : ∀ l, State.reset.dev.world.store.orders.get l = [] := by decide
    show k ∈ State.reset.dev.world.store.orders.get l ↔ _
    rw [h l]; simp [State.reset, Dev.reset, World.reset, Store.reset]
  · intro l k
    have h : ∀ l, State.reset.dev.world.store.standbys.get l = none := by decide
    show State.reset.dev.world.store.standbys.get l = some k ↔ _
    rw [h l]; simp [State.reset, Dev.reset, World.reset, Store.reset]
  · intro p; unfold Port.Ok; revert p; decide
  · intro d
    have h : ∀ d, State.reset.dev.world.map.get d = MapEntry.invalid := by decide +kernel
    show (State.reset.dev.world.map.get d).Ok
    rw [h d]; unfold MapEntry.Ok; exact ⟨by decide, fun _ => rfl, fun c hc => absurd hc (by simp [MapEntry.invalid]), by decide, by decide⟩
  · intro l; unfold LaneRec.Ok; revert l; decide
  · unfold RefUnit.Ok; decide

/-! Clauses of the statements above that rest on hypotheses of their own -/

/-- Items `a` and `b` in lane 0, whose record is `r`, with map entry 0 and port 7 as given. -/
def scene (a b : Item) (r : LaneRec) (m : MapEntry) (p : Port) : World :=
  { World.reset with
    store := storeOf [a, b] 2, lanes := World.reset.lanes.set 0 r, map := World.reset.map.set 0 m
    ports := World.reset.ports.set 7 p }
def sceneState (w : World) : State := { State.reset with dev := { State.reset.dev with world := w } }
/-- Port 7's channel 7, backed up by port 0's channel 0. -/
def entryOf (cls : DevClass) (c : Option Claim) : MapEntry :=
  { valid := true, cls, main := ⟨7, 7⟩, backup := some ⟨0, 0⟩, active := .main, autoFailover := true, preroll := 0, claim := c, waiters := [] }
def up : Port := { Port.reset with state := .inService }
def refOf (n : Nat) : ElemRef := ⟨⟨n, 1#32⟩, ⟨n, 1#32⟩⟩
def env0 : Env := State.reset.dev.env
def full (l : Fin 4) : Port :=
  { up with fifos := (Tbl.fill 4 []).set l (List.replicate 4 ⟨.roll 0, ⟨l, refOf 0, 0, 0⟩⟩) }
def seven (f : Element → Element) : Item := item 0 7 [f (clipEl 0)]
def eight : Item := item 1 8 [clipEl 1]

/-- Item 7 as lane 0's standby item beside item 8: the store is whole. -/
theorem aside_ok (a b : Item) (ha : a.key = 7 ∧ a.ref.num = 0 ∧ a.elements.map (·.ref.num) = [0] ∧ a.lane = 0 ∧ a.place = .standby)
    (hb : b.key = 8 ∧ b.ref.num = 1 ∧ b.elements.map (·.ref.num) = [1] ∧ b.lane = 0 ∧ b.place = .order) :
    let s := { storeOf [a, b] 2 with orders := (Tbl.fill 4 []).set 0 [8], standbys := (Tbl.fill 4 none).set 0 (some 7) }
    s.Ok ∧ s.Placed := by
  have h := (store2_ok { a with place := .order } b ⟨ha.1, ha.2.1, ha.2.2.1, ha.2.2.2.1, rfl⟩ hb).1
  obtain ⟨a1, _, _, a4, a5⟩ := ha
  obtain ⟨b1, _, _, b4, b5⟩ := hb
  refine ⟨h, ?_, ?_, ?_⟩
  · intro l; simp only [Tbl.get_set]; split <;> simp
  · intro l k
    simp only [storeOf, Tbl.get_set]
    by_cases h : (0 : Fin 4) = l
    · subst h; simp [a5, b1, b4, b5, eq_comm]
    · simp [h, a5, b4]
  · intro l k
    simp only [storeOf, Tbl.get_set]
    by_cases h : (0 : Fin 4) = l
    · subst h; simp [a1, a4, a5, b5]
    · simp [h, a4, b5]

/-- Lane 0 in the state given, item 7 on air and item 8 NEXT. -/
def onAir (st : LaneState) : LaneRec := { LaneRec.reset with state := st, onAir := some 7, cursor := some 7, next := some 8 }
def aside (r : LaneRec) : World :=
  let w := scene { seven id with state := .onAir, place := .standby } { eight with state := .next } r .invalid .reset
  w.setStore { w.store with orders := (Tbl.fill 4 []).set 0 [8], standbys := (Tbl.fill 4 none).set 0 (some 7) }

theorem meets_MoveCarriesTheRun_standing :
    (asked 0x12#8 [0, 7, 1, 0, 0, 8] two).Asks 0x12#8 1#8 [0, 7, 1, 0, 0, 8] [] ∧
    readAll readMove [0#8, 7, 1, 0, 0, 8] = some { first := 7, count := 1, lane := 0, before := 8 } ∧
    two.dev.world.store.orders.get 0 = [] ++ [7] ++ [8] ∧ [8].head? = some 8 :=
  ⟨asked_asks _ _ _ (by decide), by decide +kernel, rfl, rfl⟩

theorem meets_StartMakesTheFirstIncludedItemNext_arming :
    let w := fun (a : Item) (m : MapEntry) (p : Port) =>
      scene a { eight with state := .next } { LaneRec.reset with state := .standby, next := some 8 } m p
    let v := scene { seven id with state := .onAir, elements := [{ clipEl 0 with load := .loaded }] } { eight with state := .next }
      (onAir .running) (entryOf .playout (some ⟨0, [7]⟩)) up
    (((w (seven id) .invalid up).lane 0).state ≠ .idle ∧ ((w (seven id) .invalid up).lane 0).next = some 8 ∧
      ((w (seven id) .invalid up).item? 8).isSome ∧
      ((w (seven id) .invalid up).store.included 0 none).head?.map (·.key) = some 7) ∧
    ((w (seven id) .invalid up).nextItem? 0 = some { eight with state := .next } ∧ (w (seven id) .invalid up).store.Ok) ∧
    ((w (seven id) .invalid up).store.elem? (refOf 0) = some (seven id, clipEl 0) ∧ (clipEl 0).content = .clip 0 5 ∧
      (World.resolve env0 (w (seven id) .invalid up) 0).2 = .unmapped ∧
      (World.resolve env0 (w (seven id) (entryOf .playout none) .reset) 0).2 = .portFault ∧
      (World.resolve env0 (w (seven id) (entryOf .graphics none) up) 0).2 = .target ⟨7, 7⟩ .graphics) ∧
    ((World.resolve env0 (w (seven id) (entryOf .playout none) up) 0).2 = .target ⟨7, 7⟩ .playout ∧
      ((w (seven id) (entryOf .playout (some ⟨1, [9]⟩)) up).requestClaim 0 7 0).2 = .conflict ∧
      ((w (seven id) (entryOf .playout none) up).requestClaim 0 7 0).2 = .granted ∧
      ((w (seven id) (entryOf .playout none) up).requestClaim 0 7 0).1.item? 7 = some (seven id) ∧
      (v.requestClaim 0 8 0).2 = .deferred ∧ (v.requestClaim 0 8 0).1.item? 8 = some { eight with state := .next } ∧
      (clipEl 1).fire = .waiting ∧ (clipEl 1).load = .unloaded) ∧
    ((w (seven id) .invalid .reset).ports.get 7).state ≠ .inService ∧
    (((w (seven id) .invalid (full 0)).ports.get 7).state = .inService ∧
      4 ≤ (((w (seven id) .invalid (full 0)).ports.get 7).fifos.get 0).length) ∧
    (((w (seven id) .invalid up).ports.get 7).fifos.get 0).length < 4 := by
  refine ⟨by decide +kernel, ⟨rfl, (store2_ok _ _ (by decide) (by decide)).1⟩, by decide +kernel, by decide +kernel, by decide, by decide, by decide⟩

theorem meets_StopTakesALaneOffAir_standby :
    let s := sceneState (aside (onAir .filling))
    (asked 0x41#8 [0] s).Asks 0x41#8 1#8 [0] [] ∧ (s.dev.world.lane 0).state ≠ .idle ∧ (s.dev.world.lane 0).onAir = some 7 ∧
    (s.dev.world.lane 0).next ≠ some 7 ∧ (s.dev.world.lane 0).cursor = some 7 ∧
    (∃ it, s.dev.world.item? 7 = some it ∧ it.place = .standby) ∧ s.dev.world.store.Ok ∧ s.dev.world.store.Placed :=
  ⟨asked_asks _ _ _ (by decide), by decide, rfl, by decide, rfl, ⟨_, rfl, rfl⟩, aside_ok _ _ (by decide) (by decide)⟩

theorem meets_TakePutsNextOnAir_auto :
    let w := fun (b : Item) => scene { seven id with state := .onAir, endMode := .timed, effPlanned := some 0 } { b with state := .next } (onAir .running) .invalid .reset
    let gate : Item := item 1 8 [cueEl 1 true]
    let fill := aside { LaneRec.reset with state := .running, next := some 8, actionLevel := 1 }
    let fill' := { fill with monitor := { fill.monitor with notReady := fill.monitor.notReady.set 0 ⟨true, true, 1⟩ } }
    let cue : StandbyCue := { standbyCue with req := { standbyCue.req with key := 8, ref := refOf 1 }, response := .ready }
    let shown := (w gate).setStation 0 { Station.reset with lane := some 0, present := true, standby := some cue }
    ((asked 0x42#8 [0, 0] two).Asks 0x42#8 1#8 [0, 0] [] ∧ (two.dev.world.lane 0).state = .idle) ∧
    (((w eight).lane 0).state = .running ∧ World.autoDue env0 (w eight) 0 = true ∧ ((w eight).lane 0).lastTake = none) ∧
    ((fill'.lane 0).actionLevel = 1 ∧ (fill'.monitor.notReady.get 0).active = true ∧ fill'.store.standbys.get 0 = some 7 ∧
      (∃ it, fill'.item? 7 = some it ∧ it.place = .standby) ∧ (fill'.lane 0).onAir ≠ some 7 ∧
      (∃ x, fill'.item? 8 = some x ∧ x.state = .next ∧ x.place = .order) ∧ (fill'.lane 0).onAir ≠ some 8 ∧
      fill'.store.Ok ∧ fill'.store.Placed) ∧
    ((w gate).nextItem? 0 = some { gate with state := .next } ∧ (∃ on, (w gate).onAirItem? 0 = some on ∧ on.place = .order) ∧
      ((w gate).lane 0).operator = false ∧ ((w gate).lane 0).action = false ∧ ((w gate).lane 0).actionLevel ≠ 1 ∧
      gate.gating? = some (cueEl 1 true) ∧ ((w gate).stations.get 0).standby = none) ∧
    ((w eight).nextItem? 0 = some { eight with state := .next } ∧ ((w eight).lane 0).onAir ≠ some 8 ∧ eight.gating? = none ∧
      (w eight).store.Ok ∧ (w eight).store.Placed) ∧
    ∃ c, (shown.stations.get 0).standby = some c ∧ c.req.ref = refOf 1 ∧ c.response = .ready := by
  refine ⟨⟨asked_asks _ _ _ (by decide), rfl⟩, by decide +kernel,
    ⟨rfl, rfl, rfl, ⟨_, rfl, rfl⟩, by decide, ⟨_, rfl, rfl, rfl⟩, by decide, aside_ok _ _ (by decide) (by decide)⟩,
    ⟨rfl, ⟨_, rfl, rfl⟩, rfl, rfl, by decide, rfl, rfl⟩,
    ⟨rfl, by decide, rfl, store2_ok _ _ (by decide) (by decide)⟩, _, rfl, rfl, rfl⟩

theorem meets_HoldAndResumeMoveOperator_auto :
    let s := sceneState (scene { seven id with state := .onAir, endMode := .timed, effPlanned := some 0 } eight { onAir .held with operator := true } .invalid .reset)
    (asked 0x44#8 [0] s).Asks 0x44#8 1#8 [0] [] ∧ (s.begun.world.lane 0).state = .held ∧ (s.begun.world.lane 0).operator = true ∧
    (∃ it, s.begun.world.onAirItem? 0 = some it ∧ it.place = .order) ∧ World.autoDue s.dev.env s.begun.world 0 = true ∧
    ((two.begun.world.lane 0).state = .idle ∧ (asked 0x44#8 [0] two).Asks 0x44#8 1#8 [0] []) :=
  ⟨asked_asks _ _ _ (by decide), rfl, rfl, ⟨_, rfl, rfl⟩, by decide +kernel, rfl, asked_asks _ _ _ (by decide)⟩

theorem meets_GateTimeoutAndLastTakeTests_firing :
    let gfx : Element := Element.create ⟨0, 1#32⟩ (.gfxOut 0 1) 0
    let air := fun (f : Element → Element) (off : Nat) (q : List FireEntry) =>
      scene { item 0 7 [{ f gfx with offset := off }] with state := .onAir, start := some ⟨0, ⟨0, 0, 0, 0⟩⟩, cycle := some ⟨0, 0, 5⟩ } eight
        { onAir .running with fireQueue := q } .invalid .reset
    let en : FireEntry := { ref := refOf 0, due := 0, standbyPoint := none, asked := false, waitLoad := false }
    let later : Env := { env0 with ref := { env0.ref with fc := 3 } }
    State.reset.dev.env.ref.internal.isSome ∧ env0.ref.rate.secondBoundary 25 = true ∧
    ((((air id 0 [en]).lane 0).fireQueue = [] ++ en :: []) ∧ 0 ≤ fcDist en.due env0.ref.fc ∧
      ∀ x ∈ ((air id 0 [en]).lane 0).fireQueue, x.asked = false ∧ x.standbyPoint = none) ∧
    (∀ x ∈ ((air id 0 [{ en with due := 1 }]).lane 0).fireQueue, fcDist x.due env0.ref.fc < 0) ∧
    ((∃ it, (air id 0 []).onAirItem? 0 = some it ∧ it.elements[0]? = some gfx ∧ it.due gfx = 0) ∧ gfx.fire = .waiting ∧
      gfx.content.station? = none ∧ fcDist 0 env0.ref.fc = 0 ∧ ((env0.cfg.lanes.get 0).lateTolerance : Int) < fcDist 0 later.ref.fc ∧
      fcDist 1 env0.ref.fc < 0) ∧
    ((List.replicate 16 { en with due := 1 }).length = 16 ∧ (List.replicate 16 { en with due := 1 }).getLast? = some { en with due := 1 } ∧
      0 < fcDist 0 1 ∧ ¬0 < fcDist 0 0) ∧
    (let w := air (fun el => { el with fire := .done }) 0 []
     (∃ it, w.onAirItem? 0 = some it ∧ it.cycle = some ⟨0, 0, 5⟩ ∧ 0 < it.elements.length ∧
       (∀ x ∈ it.elements, x.offset ≤ 1048575 ∧ x.fire ≠ .waiting ∧ x.fire ≠ .queued ∧ x.content.isClip = false) ∧
       World.completed (World.readmitRange env0 w 0 it 5) (World.fillQueue env0 0 Item.cycleElements 80 (World.readmitRange env0 w 0 it 5)) 0 = false) ∧
     w.store.Ok) := by
  refine ⟨rfl, by decide +kernel, by decide +kernel, by decide +kernel,
    ⟨⟨_, rfl, rfl, by decide⟩, by decide, by decide, by decide, by decide, by decide⟩, by decide,
    ⟨_, rfl, rfl, by decide, by decide, by decide +kernel⟩, (store2_ok _ _ (by decide) (by decide)).1⟩

theorem meets_MapWritesOneEntry_remap :
    let w := scene { seven (fun el => { el with load := .loaded }) with state := .onAir } eight (onAir .running) (entryOf .graphics none) up
    (w.map.get 0).valid = true ∧ (w.map.get 0).cls = .graphics ∧ (w.map.get 0).Ok ∧ 7 ∈ (w.lane 0).heldKeys ∧
    (∃ it, w.item? 7 = some it ∧ ∃ el ∈ it.elements, el.isLoadedUnrolled 0 = true) ∧
    (asked 0x50#8 [0, 2] (sceneState w)).Asks 0x50#8 1#8 [0, 2] [] :=
  ⟨rfl, rfl, by unfold MapEntry.Ok; exact ⟨by decide, fun _ => rfl, (fun c hc => absurd (show (none : Option Claim) = some c from hc) (by simp)), fun _ => rfl, fun _ => rfl⟩,
    by decide, ⟨_, rfl, _, .head _, by decide⟩, asked_asks _ _ _ (by decide)⟩

theorem meets_SideMovesTheActiveSide_switch :
    let w := fun (a b : Port) => { scene (seven id) eight (onAir .running) (entryOf .playout none) a with
      ports := (World.reset.ports.set 7 a).set 0 b }
    let bad : Port := { Port.reset with state := .faulted, probeStart := some 0 }
    ((World.reset.map.get 0).valid = false) ∧ ((w up .reset).map.get 0).valid = true ∧ ((w up .reset).ports.get 7).state = .inService ∧
    ((w .reset .reset).ports.get 7).state = .down ∧
    (((w bad up).map.get 0).active = .main ∧ ((w bad up).map.get 0).autoFailover = true ∧ ((w bad up).ports.get 7).state = .faulted ∧
      ((w bad up).map.get 0).backup = some ⟨0, 0⟩ ∧ ((w bad up).ports.get 0).state = .inService) ∧
    (((w bad .reset).ports.get 7).state = .faulted ∧ ((w bad .reset).ports.get 0).state ≠ .inService) ∧
    ((w up up).ports.get 7).waitingMessages (env0.cfg.ports.get 7) = [] ∧ (w up up).item? 7 = some (seven id) := by decide +kernel

/-- For PortRequestsWriteThePortTheyName and AckTimeoutCompletesExpiredRecords alike. -/
theorem meets_PortRequestsAndAckTimeout_owners :
    let ow : Owner := ⟨0, refOf 0, 0, 3⟩
    let rec1 : WinRec := { seq := 0, msg := .roll 0, owner := some ow, sent := -5 }
    let load1 : LoadEntry := { ref := refOf 0, key := 7, device := 0, target := ⟨7, 0⟩, number := 3 }
    let s := fun (msg : CueMsg) => sceneState (scene (seven (fun el => { el with fire := .sent })) eight { onAir .running with loadList := [load1] }
      .invalid { up with window := [{ rec1 with msg }], ackTick := some 5 })
    ((s (.roll 0)).begun.world.store.Ok ∧ (∀ it ∈ (s (.roll 0)).begun.world.store.items, it.cycle = none) ∧
      ((s (.roll 0)).begun.world.ports.get 7).window = [rec1] ∧ ((s (.roll 0)).begun.world.ports.get 7).Ok ∧
      (5 : Int) ≤ fcDist rec1.sent 0 ∧ (∃ it el, (s (.roll 0)).begun.world.store.elem? ow.ref = some (it, el) ∧ el.fire = .sent ∧ el.pass = ow.pass) ∧
      0 + 1 < (env0.cfg.ports.get 7).faultThreshold) ∧
    (CueMsg.load 0 5).isLoad = true ∧ ∃ y ∈ ((s (.load 0 5)).begun.world.lane 0).loadList, y.ref = ow.ref ∧ y.number = ow.number := by
  refine ⟨⟨(store2_ok _ _ (by decide) (by decide)).1, by decide, rfl, by unfold Port.Ok; decide, by decide, ⟨_, _, rfl, rfl, rfl⟩, by decide⟩,
    rfl, _, .head _, rfl, rfl⟩

theorem meets_EndsAndDiscardsLeaveTheReceiveQueue_cycle :
    let s := answering ⟨0x83#8, [0]⟩ .probe { clipEl 0 with fire := .done }
    let w := s.dev.world
    let t := { s with dev := { s.dev with world := { w with
      lanes := w.lanes.set 0 (onAir .held)
      store := storeOf [{ seven (fun el => { el with fire := .done }) with cycle := some ⟨0, 0, 5⟩ }, eight] 2 } } }
    (t.begun.world.lane 0).onAir = some 7 ∧ (t.begun.world.lane 0).state ≠ .running ∧
    (t.begun.world.ports.get 7).received = ⟨0x83#8, [0]⟩ :: [] ∧
    ∃ it el, t.begun.world.store.elem? (refOf 0) = some (it, el) ∧ el.fire = .done ∧
      it.cycleElements.any (fun x => decide (x.ref = el.ref)) = true :=
  ⟨rfl, by decide, rfl, _, _, rfl, rfl, by decide⟩

theorem meets_ButtonsAnswerTheStandby_waiting :
    let gate : Item := { item 0 7 [cueEl 0 true] with state := .next }
    let w := scene gate eight { LaneRec.reset with state := .waiting, onAir := some 8, next := some 7, gate := true } .invalid .reset
    let s := sceneState (w.setStation 5 { Station.reset with present := true, standby := some standbyCue })
    (s.begun.world.stations.get 5).standby = some standbyCue ∧ (s.begun.world.stations.get 5).present = true ∧
    (s.begun.world.lane standbyCue.req.lane).state = .waiting ∧ s.begun.world.nextItem? 0 = some gate ∧
    gate.ref = standbyCue.req.ref.item ∧ (s.begun.world.store.elem? standbyCue.req.ref).map (·.2) = some (cueEl 0 true) ∧
    (cueEl 0 true).content.isGating = true := ⟨rfl, rfl, rfl, rfl, rfl, rfl, rfl⟩

theorem meets_OverAndUnderCountAndClear_judged :
    let w := fun (st : LaneState) (n : Nat) => scene (seven id) eight { onAir st with actionLevel := n } .invalid .reset
    let due : World := { w .running 0 with due := World.reset.due.set 0 ⟨false, true, true⟩ }
    (((w .running 0).lane 0).state ≠ .idle) ∧ (due.due.get 0).result = true ∧ (due.due.get 0).elements = true ∧
    (((w .running 0).lane 0).actionLevel = 0 ∧ ((w .waiting 2).lane 0).state = .waiting ∧ ((w .waiting 2).lane 0).actionLevel ≠ 1) ∧
    (((w .held 3).lane 0).state ≠ .waiting ∧ ((w .held 3).lane 0).actionLevel ≠ 1) ∧
    ((w .idle 0).lane 0).state = .idle := by decide

theorem meets_ClaimsAreAnsweredByTheirHolder_release :
    let m := fun (users : List Nat) (ws : List (Fin 4)) => { entryOf .playout (some ⟨1, users⟩) with waiters := ws }
    let w := fun (users : List Nat) (ws : List (Fin 4)) =>
      scene { seven (fun el => { el with load := .conflict }) with state := .onAir } eight (onAir .running) (m users ws) up
    ((w [9] []).map.get 0).claim = some ⟨1, [9]⟩ ∧ 9 ∈ [9] ∧ [9].filter (fun x => decide (x ≠ 9)) = [] ∧
    [9, 6].filter (fun x => decide (x ≠ 9)) ≠ [] ∧ ((w [9] []).map.get 0).waiters = [] ∧
    (((w [9] [2, 0]).map.get 0).waiters = [2] ++ 0 :: [] ∧ ((w [9] [2, 0]).lane 2).next.toList ++ ((w [9] [2, 0]).lane 2).onAir.toList = [] ∧
      7 ∈ ((w [9] [2, 0]).lane 0).next.toList ++ ((w [9] [2, 0]).lane 0).onAir.toList ∧
      (∃ it, (w [9] [2, 0]).item? 7 = some it ∧ it.hasClipOn 0 = true) ∧ (w [9] [2, 0]).store.Ok) :=
  ⟨rfl, by decide, by decide, by decide, rfl, rfl, rfl, by decide, ⟨_, rfl, by decide⟩, (store2_ok _ _ (by decide) (by decide)).1⟩

theorem meets_SubmissionAndArbiterFillTheWindow_firing :
    let w := fun (el : Element) (m : MapEntry) (p : Port) => scene { item 0 7 [el] with state := .onAir } eight (onAir .running) m p
    let stop : Element := Element.create ⟨0, 1#32⟩ (.clipStop 0) 0
    let clip := fun (load : LoadState) => { clipEl 0 with load, loadTarget := some ⟨7, 7⟩, loadFailure := some .portBusy }
    let st := fun (r : Station) => (w (cueEl 0 false) .invalid up).setStation 0 r
    ((w stop .invalid up).store.elem? (refOf 0) = some ({ item 0 7 [stop] with state := .onAir }, stop)) ∧
    ((w stop .invalid up).map.get 0).valid = false ∧ ((w stop (entryOf .playout none) up).map.get 0).valid = true ∧
    ((w stop (entryOf .playout none) .reset).ports.get 7).state = .down ∧
    (((w stop (entryOf .playout (some ⟨1, [9]⟩)) up).map.get 0).claim = some ⟨1, [9]⟩ ∧
      ((w stop (entryOf .playout (some ⟨1, [9]⟩)) up).map.get 0).target = ⟨7, 7⟩) ∧
    (((w stop (entryOf .playout none) (full 0)).ports.get 7).state = .inService ∧
      4 ≤ (((w stop (entryOf .playout none) (full 0)).ports.get 7).fifos.get 0).length) ∧
    (((w stop (entryOf .playout none) up).ports.get 7).fifos.get 0).length < 4 ∧
    (((w (clip .loaded) (entryOf .playout none) up).store.elem? (refOf 0)).map (·.2) = some (clip .loaded)) ∧
    ((w (clip .unloaded) (entryOf .playout none) up).lane 0).next ≠ some 7 ∧ (w (clip .unloaded) (entryOf .playout none) up).store.Ok ∧
    (((st .reset).stations.get 0).lane ≠ some 0 ∧ ((st { Station.reset with lane := some 0 }).stations.get 0).present = false ∧
      ((st { Station.reset with lane := some 0, present := true }).stations.get 0).present = true) :=
  ⟨rfl, rfl, rfl, rfl, ⟨rfl, rfl⟩, ⟨rfl, by decide⟩, by decide, rfl, by decide, (store2_ok _ _ (by decide) (by decide)).1,
    by decide, rfl, rfl⟩


/-! Clauses on notices, answers without an element, stations and timing -/

theorem meets_PulsesAndReleases_overrun :
    let s := fun (mode : AttnMode) =>
      let t := onPort { up with received := List.replicate 4 ⟨0x81#8, [5]⟩ }
      { t with dev := { t.dev with env := { t.dev.env with cfg := { t.dev.env.cfg with attnMode := mode, attnMask := 0 } } } }
    ([5#8] : List Byte).length < 40 ∧ ((s .pulse).dev.world.ports.get 7).state ≠ .down ∧
    4 ≤ ((s .pulse).dev.world.ports.get 7).received.length ∧ (s .pulse).pins.reset = false ∧
    (s .pulse).dev.env.cfg.attnMask.getLsbD 9 = false ∧ (s .level).dev.env.cfg.attnMode = .level ∧
    (s .pulse).dev.env.cfg.attnMode = .pulse ∧ ((s .pulse).dev.world.monitor.rxOverrun.get 7).latched = false ∧
    (s .pulse).dev.world.pulse = { phase := .idle, pending := 0 } := by decide

theorem meets_StartMakesTheFirstIncludedItemNext_notice :
    let n : Notice := { included := true, item := ⟨true, false, false⟩, onAir := [], next := [], disarmed := true }
    let w := scene (seven id) { eight with state := .next } { LaneRec.reset with state := .standby, next := some 8 } .invalid .reset
    n.onAir = [] ∧ n.next = [] ∧ (w.lane 0).state ≠ .idle ∧ ∃ it, w.item? 8 = some it :=
  ⟨rfl, rfl, by decide, _, rfl⟩

/-- For element changes on NEXT (item 8, left with a later clip on entry 0 whose claim it holds) and on air (item 7). -/
theorem meets_StartMakesTheFirstIncludedItemNext_changes :
    let b : Item := { item 1 8 [{ clipEl 1 with offset := 5 }] with state := .next }
    let w := fun (a : Item) (st : LaneState) => scene { a with state := .onAir } b (onAir st) (entryOf .playout (some ⟨0, [8]⟩)) up
    let gfx : Element := Element.create ⟨9, 1#32⟩ (.gfxOut 0 1) 0
    (((w (seven id) .waiting).lane 0).state = .waiting ∧ ((w (seven id) .waiting).lane 0).next = some 8) ∧
    ((w (seven id) .running).item? 8 = some b ∧ (clipEl 0).content = .clip 0 5 ∧ (b.elements.map (·.ref)).Nodup ∧
      b.elements[0]? = some { clipEl 1 with offset := 5 } ∧ (clipEl 0).offset < 5 ∧
      (w (seven id) .running).isDeferred 0 8 0 = false ∧
      (w (seven (fun el => { el with fire := .done })) .running).isDeferred 0 8 0 = false) ∧
    ((w (seven id) .running).store.elem? (refOf 1) = some (b, { clipEl 1 with offset := 5 }) ∧
      ({ clipEl 1 with offset := 5 } : Element).isClipOn 0 = true ∧ ({ clipEl 1 with offset := 5 } : Element).isClipOn 1 = false) ∧
    ((cueEl 9 true).content = .cue 0 100 true ∧ gfx.content.isClip = false ∧ gfx.content.station? = none) ∧
    ((w (seven id) .running).store.Ok ∧ (∀ st, ((w (seven id) .running).stations.get st).go = none) ∧ (cueEl 9 true).fire ≠ .queued ∧
      ∃ it, (w (seven id) .running).store.elem? (refOf 0) = some (it, clipEl 0) ∧ it.cycle = none ∧ (clipEl 0).fire = .waiting) ∧
    ({ gfx with fire := .done } : Element).fire ≠ .waiting := by
  refine ⟨⟨rfl, rfl⟩, by decide +kernel, by decide, ⟨rfl, rfl, rfl⟩, ⟨(store2_ok _ _ (by decide) (by decide)).1, by decide, by decide, _, rfl, rfl, rfl⟩, by decide⟩

/-- A PLAYOUT entry with a holder refuses the VALID form. -/
theorem meets_MapWritesOneEntry_held :
    let p : List Byte := [0, 1, 1, 0, 0, 2, 0, 0, 0]
    let s := sceneState (scene (seven id) eight (onAir .running) (entryOf .playout (some ⟨0, [7]⟩)) up)
    (asked 0x50#8 p s).Asks 0x50#8 1#8 p [] ∧ readAll readMap p = some (0, .valid 1 (0, 0) none false 0) ∧
    devClass? 1 = some .graphics ∧ target? (0, 0) = some ⟨0, 0⟩ ∧ (none : Option Target) ≠ some ⟨0, 0⟩ ∧
    (s.dev.world.map.get 0).cls = .playout ∧ (s.dev.world.map.get 0).claim ≠ none :=
  ⟨asked_asks _ _ _ (by decide), by decide +kernel, rfl, rfl, by decide, rfl, by decide⟩

theorem meets_LanecfgWritesTheSettingsItCarries_recompute :
    State.reset.dev.env.cfg.lanes.get 3 = LaneCfg.default ∧ (.auto : FitMode) ≠ LaneCfg.default.fitMode := by decide

/-- For a record of a LOAD whose entry is gone, of an element that is freed, and of one that is not SENT; and the recovering PROBE. -/
theorem meets_AnswersCompleteTheElementTheyName_unowned :
    let s := fun (x : WinRec) => sceneState (scene (seven id) eight (onAir .running) .invalid
      { Port.reset with state := .faulted, probeStart := some 0, probeAcks := 15, received := [⟨0x81#8, [5]⟩], window := [x] })
    let ow : Owner := ⟨0, refOf 0, 0, 3⟩
    ((s ⟨5, .probe, none, 0⟩).begun.world.ports.get 7).received = ⟨0x81#8, [5]⟩ :: [] ∧
    ((s ⟨5, .probe, none, 0⟩).begun.world.ports.get 7).window.find? (fun x => decide (x.seq = 5#8)) = some ⟨5, .probe, none, 0⟩ ∧
    (env0.cfg.ports.get 7).recoverCount ≤ min 15 (15 + 1) ∧
    ((s ⟨5, .load 0 5, some ow, 0⟩).begun.world.lane 0).loadList = [] ∧
    (s ⟨5, .roll 0, some { ow with ref := refOf 9 }, 0⟩).begun.world.store.elem? (refOf 9) = none ∧
    ∃ it, (s ⟨5, .roll 0, some ow, 0⟩).begun.world.store.elem? (refOf 0) = some (it, clipEl 0) ∧ (clipEl 0).fire ≠ .sent :=
  ⟨rfl, rfl, by decide, rfl, rfl, _, rfl, by decide⟩

theorem meets_EndsAndDiscardsLeaveTheReceiveQueue_running :
    let s := answering ⟨0x83#8, [0]⟩ .probe { clipEl 0 with fire := .done }
    let t := fun (m : EndMode) => { s with dev := { s.dev with world := { s.dev.world with
      lanes := s.dev.world.lanes.set 0 (onAir .running)
      store := storeOf [{ seven (fun el => { el with fire := .done }) with endMode := m }, eight] 2 } } }
    let w := (t (.clip 0)).begun.world
    (w.ports.get 7).received = ⟨0x83#8, [0]⟩ :: [] ∧ (w.lane 0).state = .running ∧ (w.lane 0).onAir = some 7 ∧ w.store.Ok ∧
    ∃ it el, w.store.elem? (refOf 0) = some (it, el) ∧ el.fire = .done ∧ it.place = .order ∧ it.endMode = .clip 0 ∧
      (it.elements[0]?).map (·.ref) = some (refOf 0).elem :=
  ⟨rfl, rfl, rfl, (store2_ok _ _ (by decide) (by decide)).1, _, _, rfl, rfl, rfl, rfl, rfl⟩

theorem meets_AckTimeoutCompletesExpiredRecords_unowned :
    let s := fun (st : PortState) (msg : CueMsg) (o : Option Owner) => sceneState (scene (seven id) eight (onAir .running) .invalid
      { Port.reset with state := st, probeStart := if st = .faulted then some 0 else none, ackTick := some 5, window := [⟨0, msg, o, -5⟩] })
    let r := (s .faulted .probe none).begun.world.ports.get 7
    r.ackTick = some 5 ∧ r.Ok ∧ r.failures ≤ 15 ∧ (env0.cfg.ports.get 7).faultThreshold ≤ 15 ∧ r.state = .faulted ∧
    r.window.filter (fun x => decide ((5 : Int) ≤ fcDist x.sent 0)) = [⟨0, .probe, none, -5⟩] ∧
    (let t := s .inService (.roll 0) (some ⟨0, refOf 0, 0, 3⟩)
     (t.begun.world.ports.get 7).state = .inService ∧ 0 + 1 < (env0.cfg.ports.get 7).faultThreshold ∧
      ∃ it, t.begun.world.store.elem? (refOf 0) = some (it, clipEl 0) ∧ (clipEl 0).fire ≠ .sent) := by
  refine ⟨rfl, by unfold Port.Ok; decide, by decide, by decide, rfl, by decide, rfl, by decide, _, rfl, by decide⟩

/-- The stations of the second boundary and of the standby slots. -/
theorem meets_PresenceAndButtons_slots :
    let at5 := fun (r : Station) => ((atStation r).begun.world.stations.get 5)
    let here : Station := { Station.reset with lane := some 0, present := true }
    let far : StandbyReq := { standbyCue.req with ref := refOf 1, distance := 50 }
    (at5 .reset).present = false ∧ (at5 { here with heard := true }).heard = true ∧
    ((at5 { here with missed := 1 }).heard = false ∧ (at5 { here with missed := 1 }).missed < 2 ∧ 2 ≤ (at5 { here with missed := 2 }).missed) ∧
    (at5 .reset).lane ≠ some 0 ∧ ((at5 { here with present := false }).lane = some 0 ∧ (at5 { here with present := false }).present = false) ∧
    ((at5 here).lane = some 0 ∧ (at5 here).present = true ∧ (at5 here).standby = none ∧ ∀ x ∈ (at5 here).waiting, x.ref ≠ refOf 0) ∧
    ((at5 { here with standby := some standbyCue }).standby = some standbyCue ∧ standbyCue.req.ref = refOf 0 ∧ standbyCue.req.ref ≠ refOf 1) ∧
    (standbyCue.countdown < Rate.r25.countdown 26 ∧ Rate.r25.countdown 1 ≤ standbyCue.countdown ∧ standbyCue.countdown < Rate.r25.countdown 1 + 2) ∧
    ((at5 { here with waiting := [standbyCue.req, far] }).standby = none ∧ ([standbyCue.req, far].map (·.ref)).Nodup) ∧
    (at5 { here with go := some ⟨7, refOf 0, []⟩ }).go.map (·.ref) = some (refOf 0) := by decide +kernel

theorem meets_OverAndUnderCountAndClear_diverts :
    let w := aside { onAir .waiting with next := none, actionLevel := 2 }
    let r : RefUnit := { RefUnit.reset with enabled := true }
    ((w.lane 0).state = .waiting ∧ 1 ≠ (w.lane 0).actionLevel ∧ (w.lane 0).next = none ∧ w.store.standbys.get 0 ≠ none ∧
      (w.lane 0).lastTake = none) ∧
    ((r.enabled = true ∧ r.state ≠ .locked) ∧ w.monitor.refLost.active = false) := by decide

theorem meets_TimingResultFollowsTheRundown_absorber :
    let fill := { item 0 7 [clipEl 0] with absorber := some ⟨0, 500⟩ }
    let its := [item 1 8 [], fill]
    its = [item 1 8 []] ++ fill :: [] ∧ (∀ x ∈ [item 1 8 []], x.absorber = none) ∧ (0 : Nat) ≤ 500 ∧
    (computeTiming env0 none LaneCfg.default none none its).rawOver = none ∧
    (computeTiming env0 (some 300) LaneCfg.default none none its).rawOver = some (-100) := by decide +kernel

theorem meets_FitPlanTakesCandidatesInOrder_carried :
    let w := scene (seven id) { eight with dropPriority := 1, planned := 400 } { LaneRec.reset with state := .standby } .invalid .reset
    let cfg := { env0.cfg with
      lanes := env0.cfg.lanes.set 0 { LaneCfg.default with fitMode := .auto, lockWindow := 0 }
      hardOuts := env0.cfg.hardOuts.set 0 (some ⟨⟨0, 0, 4, 0⟩, 100⟩) }
    let e := { env0 with cfg := cfg }
    ((w.setDue 0 ⟨true, false, false⟩).due.get 0).recompute = true ∧ (e.cfg.lanes.get 0).fitMode = .auto ∧
    (e.cfg.lanes.get 0).substitute = none ∧ ((World.recompute e w 0).timing.get 0).plan ≠ [] := by decide +kernel

/-- R44, R138, R139: a WAITING cue asked on station 5 and then moved to station 0 leaves station 5 when it is deleted. -/
theorem test_removed_cue_leaves_its_old_station :
    let w := (World.reset).setStation 5 { Station.reset with lane := some 0, present := true, standby := some standbyCue }
    ((World.changeOnAir env0 0 w (.removed (refOf 0) (cueEl 0 false) 0)).stations.get 5).standby = none := by decide +kernel

/-- R136: a clip outside the cycle range that ends its wait for load does not have the range, still SENT, re-admitted. -/
theorem test_wait_outside_the_range_makes_no_pass :
    let gfx : Element := { Element.create ⟨0, 1#32⟩ (.gfxOut 0 1) 0 with fire := .sent }
    let clip : Element := { clipEl 1 with fire := .queued, load := .loaded, loadTarget := some ⟨7, 0⟩ }
    let it : Item := { item 0 7 [gfx, clip] with state := .onAir, cycle := some ⟨0, 0, 5⟩ }
    let en : FireEntry := { ref := it.refOf clip, due := 0, standbyPoint := none, asked := false, waitLoad := true }
    let w := World.finishWaits env0 (scene it eight { onAir .running with fireQueue := [en] } .invalid up) 0
    (w.item? 7).map (fun i => i.elements.map (·.fire)) = some [.sent, .sent] ∧ (w.lane 0).passCount = 0 := by decide +kernel
end Sys2Proof.Tests
end

section
/-! The countdown seconds (R70): one ceiling division by the units of a second, at every rate. -/
namespace Sys2Proof.Machine

/-- A frame lasts `period` units of which a second has 120,000 (R59): R70's four quotients are its real seconds per frame, rounded
up. -/
theorem Rate.countdown_natCast (r : Rate) (f : Nat) : r.countdown f = (f * r.period + 119999) / 120000 := by
  cases r <;> simp only [Rate.countdown, Rate.period, Int.toNat_natCast] <;> omega

theorem Rate.countdown_le_iff (r : Rate) (f c : Nat) : r.countdown f ≤ c ↔ f * r.period ≤ c * 120000 := by
  rw [r.countdown_natCast, Nat.div_le_iff_le_mul (by decide)]
  exact Nat.add_le_add_iff_right (n := 119999)

theorem Rate.countdown_zero (r : Rate) : r.countdown 0 = 0 := by
  cases r <;> rfl

/-- A distance below zero counts as none. -/
theorem Rate.countdown_of_neg (r : Rate) {f : Int} (hf : f < 0) : r.countdown f = 0 := by
  have htoNat : f.toNat = (0 : Int).toNat := Int.toNat_of_nonpos (Int.le_of_lt hf)
  calc r.countdown f = r.countdown 0 := by simp only [Rate.countdown, htoNat]
    _ = 0 := r.countdown_zero

/-- Settles O47: the quotients are the definition's, and the least sufficient second is what `Rate.countdown_le_iff` says, read at
the countdown itself and at any other count of seconds. -/
theorem countdownIsTheLeastSufficientSecond : Obligations.CountdownIsTheLeastSufficientSecond := by
  refine ⟨fun f => ⟨rfl, rfl, rfl, rfl⟩, fun rate f => ⟨?sufficient, fun c => ?least⟩, fun rate f => rate.countdown_of_neg⟩
  case sufficient => exact (rate.countdown_le_iff f _).mp (Nat.le_refl _)
  case least => exact (rate.countdown_le_iff f c).mpr

end Sys2Proof.Machine
end

section
/-! The timing result of a lane (R77 to R81): the absorber, the distances of the included items, and the fields of the result. -/
namespace Sys2Proof.Machine

/-! ### The absorber (R79, R80) -/

theorem absorberOf_eq_none {items : List Item} (h : ∀ it ∈ items, it.absorber = none) : absorberOf items = none :=
  List.findSome?_eq_none_iff.mpr fun it hit => by rw [h it hit]; rfl

/-- The absorber is the first included item that has the field. -/
theorem absorberOf_append_cons {above below : List Item} {it : Item} {a : Absorber} (habove : ∀ x ∈ above, x.absorber = none)
    (ha : it.absorber = some a) : absorberOf (above ++ it :: below) = some (it, a) := by
  have hnone : absorberOf above = none := absorberOf_eq_none habove
  rw [absorberOf] at hnone ⊢
  simp [List.findSome?_append, hnone, ha]

theorem mem_of_absorberOf {items : List Item} {it : Item} {a : Absorber} (h : absorberOf items = some (it, a)) : it ∈ items := by
  obtain ⟨x, hx, hxa⟩ := List.exists_of_findSome?_eq_some h
  obtain ⟨b, -, hb⟩ := Option.map_eq_some_iff.mp hxa
  cases hb
  exact hx

theorem clampTo_cast (a : Absorber) (d : Int) : (clampTo a d : Int) = max (a.min : Int) (min (a.max : Int) d) := by
  unfold clampTo
  omega

theorem clampTo_range {a : Absorber} (h : a.min ≤ a.max) (d : Int) : a.min ≤ clampTo a d ∧ clampTo a d ≤ a.max := by
  have := clampTo_cast a d
  omega

theorem absorbed_none (a : Absorber) (planned : Nat) : absorbed a planned none = max a.min (min a.max planned) := by
  have := clampTo_cast a ((planned : Int) - 0)
  unfold absorbed
  simp only [Option.getD_none]
  omega

theorem Item.effective_of_ne {it : Item} {k peff : Nat} (h : it.key ≠ k) : it.effective (some (k, peff)) = it.planned := if_neg h

theorem Item.effective_self (it : Item) (peff : Nat) : it.effective (some (it.key, peff)) = peff := if_pos rfl

theorem sum_effective_of_not_mem {items : List Item} {k : Nat} (peff : Nat) (h : k ∉ items.map (·.key)) :
    (items.map (Item.effective (some (k, peff)))).sum = plannedSum items := by
  refine congrArg List.sum (List.map_congr_left fun it hit => Item.effective_of_ne ?_)
  rintro rfl
  exact h (List.mem_map_of_mem hit)

/-- Where the keys are distinct, an absorber changes the planned sum by its own change alone (R78, R80). -/
theorem sum_effective_of_mem {items : List Item} {it : Item} (peff : Nat) (hk : (items.map (·.key)).Nodup) (hit : it ∈ items) :
    (items.map (Item.effective (some (it.key, peff)))).sum + it.planned = plannedSum items + peff := by
  obtain ⟨above, below, rfl⟩ := List.append_of_mem hit
  rw [List.map_append, List.map_cons, List.nodup_append, List.nodup_cons] at hk
  obtain ⟨-, ⟨hbelow, -⟩, hdisjoint⟩ := hk
  have habove : it.key ∉ above.map (·.key) := fun h => hdisjoint _ h _ List.mem_cons_self rfl
  have h1 := sum_effective_of_not_mem peff habove
  have h2 := sum_effective_of_not_mem peff hbelow
  simp only [plannedSum, List.map_append, List.map_cons, List.sum_append, List.sum_cons, Item.effective_self] at h1 h2 ⊢
  omega

/-! ### The distances (R80, R81) -/

section Distances
variable (rate : Rate) (t : Nat) (absorber : Option (Nat × Nat))

theorem distances_keys (front : Int) (back : Option Int) (items : List Item) :
    (distances rate t absorber front back items).map (·.key) = items.map (·.key) := by
  induction items generalizing front back with
  | nil => rfl
  | cons it rest ih => simp only [distances, List.map_cons, ih]

@[simp] theorem distances_length (front : Int) (back : Option Int) (items : List Item) :
    (distances rate t absorber front back items).length = items.length := by
  simpa using congrArg List.length (distances_keys rate t absorber front back items)

/-- An item's distances are those of the head, each increased by the effective durations above the item. -/
theorem distances_getElem? (front : Int) (back : Option Int) (above : List Item) (it : Item) (below : List Item) :
    (distances rate t absorber front back (above ++ it :: below))[above.length]? =
      let d : Int := ((above.map (Item.effective absorber)).sum : Nat)
      some { key := it.key, front := front + d, frontLabel := rate.label (rate.wrap ((t : Int) + (front + d)))
             back := back.map (fun b => (b + d, rate.label (rate.wrap ((t : Int) + (b + d))))) } := by
  induction above generalizing front back with
  | nil => simp [distances]
  | cons x rest ih =>
    simp only [List.cons_append, distances, List.length_cons, List.getElem?_cons_succ, ih, List.map_cons, List.sum_cons,
      Option.map_map, Nat.cast_add, Function.comp_def, add_assoc]

/-- Every distance is that of some included item. -/
theorem exists_of_mem_distances {front : Int} {back : Option Int} {items : List Item} {x : ItemDist}
    (hx : x ∈ distances rate t absorber front back items) :
    ∃ above it below, items = above ++ it :: below ∧
      (distances rate t absorber front back items)[above.length]? = some x := by
  obtain ⟨i, hi, rfl⟩ := List.mem_iff_getElem.mp hx
  have hi' : i < items.length := by simpa using hi
  refine ⟨items.take i, items[i], items.drop (i + 1), by simp, ?_⟩
  rw [List.length_take_of_le hi'.le]
  exact List.getElem?_eq_getElem hi

end Distances

/-! ### The frame counter and the remaining time on air (R54, R77) -/

/-- The remaining time on air, with the place tested as a condition (R77). -/
theorem remOnAir_eq (e : Env) (onAir : Option Item) :
    remOnAir e onAir = match onAir with
      | none => 0
      | some it => if it.place = .standby then 0 else it.effPlanned.getD 0 - it.elapsed e := by
  cases onAir with
  | none => rfl
  | some it => cases hplace : it.place <;> simp [remOnAir, hplace]

/-- A distance short of half the counter's range is the reverse of the one back (R54). -/
theorem fcDist_swap {a b : Fc} (h : fcDist a b ≠ -2147483648) : fcDist b a = -fcDist a b := by
  have hneg : a - b = -(b - a) := by bv_omega
  have hmin : b - a ≠ BitVec.intMin 32 := fun hm => h (by rw [fcDist, hm]; decide)
  rw [fcDist, hneg, BitVec.toInt_neg_of_ne_intMin hmin, fcDist]

/-! ### The fields of the result (R72, R77 to R85) -/

section Result
variable (e : Env) (habs : Option Fc) (cfg : LaneCfg) (onAir : Option Item) (next : Option Nat) (items : List Item)

theorem computeTiming_rawOver : (computeTiming e habs cfg onAir next items).rawOver =
    habs.map (fun h => fcDist h e.now + remOnAir e onAir + plannedSum items) := rfl

theorem computeTiming_absorber : (computeTiming e habs cfg onAir next items).absorber =
    (absorberOf items).map (fun x =>
      (x.1.key, absorbed x.2 x.1.planned (computeTiming e habs cfg onAir next items).rawOver)) := rfl

theorem computeTiming_items : (computeTiming e habs cfg onAir next items).items =
    let t := computeTiming e habs cfg onAir next items
    distances e.ref.rate e.ref.t t.absorber t.remOn
      (habs.map (fun h => fcDist e.now h - ((items.map (Item.effective t.absorber)).sum : Nat))) items := by
  cases habs <;> rfl

variable {items}

theorem computeTiming_overA_of_none (h : absorberOf items = none) :
    (computeTiming e habs cfg onAir next items).overA = (computeTiming e habs cfg onAir next items).rawOver := by
  cases habs <;> simp [computeTiming, h]

/-- An absorber leaves of the raw over what its effective duration does not take up (R79). -/
theorem computeTiming_overA_of_some {it : Item} {a : Absorber} (h : absorberOf items = some (it, a)) :
    let t := computeTiming e habs cfg onAir next items
    t.overA = t.rawOver.map (· + ((absorbed a it.planned t.rawOver : Int) - it.planned)) := by
  simp [computeTiming, h]

variable (items)

/-- The over of the result is the raw over with the change that the absorber makes to the planned sum (R78 to R80). -/
theorem computeTiming_overA_eq_sum (hk : (items.map (·.key)).Nodup) :
    let t := computeTiming e habs cfg onAir next items
    t.overA = habs.map (fun h => fcDist h e.now + t.remOn + ((items.map (Item.effective t.absorber)).sum : Nat)) := by
  intro t
  cases hfound : absorberOf items with
  | none =>
    have habsorber : t.absorber = none := by simp only [t, computeTiming_absorber, hfound, Option.map_none]
    rw [computeTiming_overA_of_none _ _ _ _ _ hfound, computeTiming_rawOver, habsorber]
    rfl
  | some found =>
    obtain ⟨it, a⟩ := found
    have habsorber : t.absorber = some (it.key, absorbed a it.planned t.rawOver) := by
      simp only [t, computeTiming_absorber, hfound, Option.map_some]
    have hsum := sum_effective_of_mem (absorbed a it.planned t.rawOver) hk (mem_of_absorberOf hfound)
    have hover : t.overA = t.rawOver.map (· + ((absorbed a it.planned t.rawOver : Int) - it.planned)) :=
      computeTiming_overA_of_some _ _ _ _ _ hfound
    rw [hover, habsorber]
    generalize absorbed a it.planned t.rawOver = peff at hsum ⊢
    rw [computeTiming_rawOver, Option.map_map]
    refine congrArg (habs.map ·) (funext fun h => ?_)
    have hrem : t.remOn = remOnAir e onAir := rfl
    simp only [Function.comp_apply, hrem]
    omega

/-- The distances of an included item (R80, R81). -/
theorem computeTiming_getElem? (above : List Item) (it : Item) (below : List Item) :
    let t := computeTiming e habs cfg onAir next (above ++ it :: below)
    let front : Int := t.remOn + ((above.map (Item.effective t.absorber)).sum : Nat)
    let back := fun h => fcDist e.now h - (((it :: below).map (Item.effective t.absorber)).sum : Nat)
    t.items[above.length]? = some
      { key := it.key, front, frontLabel := e.ref.rate.label (e.ref.rate.wrap (e.ref.t + front))
        back := habs.map (fun h => (back h, e.ref.rate.label (e.ref.rate.wrap (e.ref.t + back h)))) } := by
  intro t front back
  have hback : ∀ h, fcDist e.now h - (((above ++ it :: below).map (Item.effective t.absorber)).sum : Nat) +
      ((above.map (Item.effective t.absorber)).sum : Nat) = back h := by
    intro h
    simp only [back, List.map_append, List.sum_append]
    omega
  rw [computeTiming_items, distances_getElem?]
  simp only [Option.map_map, Function.comp_def]
  simp only [t] at hback
  simp only [hback, front, t]

end Result

/-- Settles O51: the fields are those of the computation, the absorber and the distances by the lemmas above; an item's back distance
is its front distance less the over since both count the same effective durations. -/
theorem timingResultFollowsTheRundown : Obligations.TimingResultFollowsTheRundown := by
  intro e habs cfg onAir next items t effective label
  refine ⟨rfl, remOnAir_eq e onAir, rfl, ?noAbsorber, ?absorber, distances_keys .., ?distances, ?back, ?noHardOut⟩
  case noAbsorber =>
    intro h
    have hfound := absorberOf_eq_none h
    exact ⟨by simp only [t, computeTiming_absorber, hfound, Option.map_none], computeTiming_overA_of_none _ _ _ _ _ hfound⟩
  case absorber =>
    intro above it below a hitems habove ha hrange
    have hfound : absorberOf items = some (it, a) := hitems ▸ absorberOf_append_cons habove ha
    have hover : t.overA = t.rawOver.map (· + ((absorbed a it.planned t.rawOver : Int) - it.planned)) :=
      computeTiming_overA_of_some _ _ _ _ _ hfound
    refine ⟨absorbed a it.planned t.rawOver, ?_, (clampTo_range hrange _).1, (clampTo_range hrange _).2, ?_, ?_⟩
    · simp only [t, computeTiming_absorber, hfound, Option.map_some]
    · intro hraw
      exact ⟨by rw [hraw, absorbed_none], by rw [hover, hraw, Option.map_none]⟩
    · intro raw hraw
      refine ⟨by rw [hraw, absorbed, Option.getD_some, clampTo_cast], ?_⟩
      rw [hover, hraw, Option.map_some]
      exact congrArg some (by omega)
  case distances =>
    rintro above it below rfl
    refine ⟨_, computeTiming_getElem? e habs cfg onAir next above it below, rfl, rfl, ?_, ?_⟩
    · rintro rfl
      rfl
    · rintro h rfl
      exact ⟨_, rfl, rfl⟩
  case back =>
    intro h o hh ho hk hhalf x b hx hb
    subst hh
    obtain ⟨above, it, below, rfl, hget⟩ := exists_of_mem_distances _ _ _ hx
    cases (computeTiming_getElem? e (some h) cfg onAir next above it below).symm.trans hget
    cases hb
    have hover := computeTiming_overA_eq_sum e (some h) cfg onAir next (above ++ it :: below) hk
    cases ho.symm.trans hover
    have hswap : fcDist h e.now = -fcDist e.now h := fcDist_swap hhalf
    simp only [hswap, List.map_append, List.sum_append]
    omega
  case noHardOut =>
    rintro rfl
    exact ⟨rfl, rfl, rfl, rfl⟩

end Sys2Proof.Machine
end

section
/-! The fit plan of a lane (R84, R85): the candidates in their order, and those taken until the over is met. -/
namespace Sys2Proof.Machine

/-! ### The fit plan (R84, R85) -/

/-- The sort by drop priority is stable: candidates of one priority stand in it as in the reversed list. -/
theorem candidateOrder_filter (items : List Item) (n : Nat) :
    (candidateOrder items).filter (fun it => decide (it.dropPriority = n)) =
      (items.filter (fun it => decide (it.dropPriority = n))).reverse := by
  set ofPriority := fun it : Item => decide (it.dropPriority = n)
  have hsame : (items.reverse.filter ofPriority).Pairwise (fun a b => b.dropPriority ≤ a.dropPriority) :=
    List.pairwise_of_forall_mem_list fun a ha b hb => by
      have hpa : a.dropPriority = n := by simpa [ofPriority] using (List.mem_filter.mp ha).2
      have hpb : b.dropPriority = n := by simpa [ofPriority] using (List.mem_filter.mp hb).2
      omega
  have hsub : (items.reverse.filter ofPriority).Sublist ((candidateOrder items).filter ofPriority) := by
    simpa only [List.filter_filter, Bool.and_self, candidateOrder] using
      (List.sublist_insertionSort hsame List.filter_sublist).filter ofPriority
  have hperm := (List.perm_insertionSort (fun a b : Item => b.dropPriority ≤ a.dropPriority) items.reverse).filter ofPriority
  rw [← List.filter_reverse]
  exact (hsub.eq_of_length hperm.length_eq.symm).symm

theorem candidateOrder_sorted (items : List Item) :
    (candidateOrder items).Pairwise (fun a b => b.dropPriority ≤ a.dropPriority) := by
  have : Std.Total (fun a b : Item => b.dropPriority ≤ a.dropPriority) := ⟨fun a b => Nat.le_total _ _⟩
  have : IsTrans Item (fun a b : Item => b.dropPriority ≤ a.dropPriority) := ⟨fun a b c hab hbc => Nat.le_trans hbc hab⟩
  exact List.pairwise_insertionSort _ _

/-- What the taking of candidates comes to: a first part of the list is taken, no longer than it takes to meet the value (R85). -/
theorem takeCandidates_spec (running : Int) (order : List Item) :
    ∃ taken left, order = taken ++ left ∧ (takeCandidates running order).1 = taken.map (·.key) ∧
      (takeCandidates running order).2 = running - (plannedSum taken : Nat) ∧
      (left = [] ∨ running - (plannedSum taken : Nat) ≤ 0) ∧
      ∀ before, before <+: taken → before ≠ taken → 0 < running - (plannedSum before : Nat) := by
  induction order generalizing running with
  | nil => exact ⟨[], [], by simp [takeCandidates, plannedSum]⟩
  | cons it rest ih =>
    by_cases hmet : running ≤ 0
    · exact ⟨[], it :: rest, by simp [takeCandidates, plannedSum, hmet]⟩
    · obtain ⟨taken, left, hsplit, hkeys, hresidual, hend, hbefore⟩ := ih (running - it.planned)
      refine ⟨it :: taken, left, by rw [hsplit, List.cons_append], ?_, ?_, hend.imp id fun h => ?_, ?_⟩
      · simp [takeCandidates, hmet, hkeys]
      · simp only [takeCandidates, if_neg hmet, hresidual, plannedSum, List.map_cons, List.sum_cons]
        omega
      · simp only [plannedSum, List.map_cons, List.sum_cons] at h ⊢
        omega
      · intro before hpre hne
        rcases List.prefix_cons_iff.mp hpre with rfl | ⟨more, rfl, hmore⟩
        · simpa [plannedSum] using Int.lt_of_not_ge hmet
        · have := hbefore more hmore fun h => hne (h ▸ rfl)
          simp only [plannedSum, List.map_cons, List.sum_cons] at this ⊢
          omega

/-! ### The plan of a result (R84) -/

/-- The fit plan with its residual, where a result has one built: with a fit mode, and an over to be met (R84). -/
def Timing.fitted (t : Timing) (cfg : LaneCfg) (next : Option Nat) (items : List Item) : Option (List Nat × Int) :=
  t.overA.bind fun o =>
    if cfg.fitMode ≠ .off ∧ 0 < o then some (fitPlan next t.absorber cfg.lockWindow items t.items o) else none

theorem Timing.fitted_of_over {t : Timing} {cfg : LaneCfg} {o : Int} (next : Option Nat) (items : List Item)
    (ho : t.overA = some o) (hpos : 0 < o) (hfit : cfg.fitMode ≠ .off) :
    t.fitted cfg next items = some (fitPlan next t.absorber cfg.lockWindow items t.items o) := by
  rw [fitted, ho, Option.bind_some, if_pos ⟨hfit, hpos⟩]

theorem Timing.fitted_eq_none {t : Timing} {cfg : LaneCfg} (next : Option Nat) (items : List Item)
    (h : t.overA = none ∨ cfg.fitMode = .off ∨ ∃ o, t.overA = some o ∧ o ≤ 0) : t.fitted cfg next items = none := by
  rcases h with hnone | hoff | ⟨o, ho, hmet⟩
  · rw [fitted, hnone, Option.bind_none]
  · simp [fitted, hoff]
  · rw [fitted, ho, Option.bind_some, if_neg fun h => absurd h.2 (not_lt.mpr hmet)]

section Result
variable (e : Env) (habs : Option Fc) (cfg : LaneCfg) (onAir : Option Item) (next : Option Nat) (items : List Item)

theorem computeTiming_plan : (computeTiming e habs cfg onAir next items).plan =
    (((computeTiming e habs cfg onAir next items).fitted cfg next items).map (·.1)).getD [] := by
  cases habs <;> rfl

theorem computeTiming_residual : (computeTiming e habs cfg onAir next items).residual =
    ((computeTiming e habs cfg onAir next items).fitted cfg next items).map (·.2) := by
  cases habs <;> rfl

/-- A plan is built of the candidates among the included items, and takes them in their order (R84, R85). -/
theorem computeTiming_fit_of_over {o : Int} (ho : (computeTiming e habs cfg onAir next items).overA = some o) (hpos : 0 < o)
    (hfit : cfg.fitMode ≠ .off) :
    let t := computeTiming e habs cfg onAir next items
    let candidates := ((items.zip t.items).filter (fun x => isCandidate next t.absorber cfg.lockWindow x.1 x.2.front)).map (·.1)
    let fit := takeCandidates o (candidateOrder candidates)
    t.plan = fit.1 ∧ t.residual = some fit.2 := by
  intro t candidates fit
  have hfitted := Timing.fitted_of_over next items ho hpos hfit
  rw [computeTiming_plan, computeTiming_residual, hfitted]
  exact ⟨rfl, rfl⟩

theorem computeTiming_fit_of_none (h : (computeTiming e habs cfg onAir next items).overA = none ∨ cfg.fitMode = .off ∨
      ∃ o, (computeTiming e habs cfg onAir next items).overA = some o ∧ o ≤ 0) :
    (computeTiming e habs cfg onAir next items).plan = [] ∧ (computeTiming e habs cfg onAir next items).residual = none := by
  rw [computeTiming_plan, computeTiming_residual, Timing.fitted_eq_none next items h]
  exact ⟨rfl, rfl⟩

end Result

end Sys2Proof.Machine
end

section
/-! The blocks' working leaves every recompute that is due (R73): of what is due for a lane it changes the judgements alone. Sending,
answering and showing change nothing of it; a change of an element's load or fire state makes NOT_READY due for judgement. -/
namespace Sys2Proof.Machine

/-- What no round of a loop changes, the loop does not change. -/
theorem foldl_read {α β : Type} (g : World → β) {f : World → α → World} (hf : ∀ w a, g (f w a) = g w) (xs : List α) (w : World) :
    g (xs.foldl f w) = g w :=
  Working.foldl (P := fun v => g v = g w) f (fun v a hv => (hf v a).trans hv) xs rfl

theorem foldl_recompute {α : Type} {f : World → α → World} {l : Fin 4}
    (hf : ∀ w a, ((f w a).due.get l).recompute = (w.due.get l).recompute) (xs : List α) (w : World) :
    ((xs.foldl f w).due.get l).recompute = (w.due.get l).recompute :=
  foldl_read (fun w => (w.due.get l).recompute) hf xs w

variable (e : Env) (w : World) (l m : Fin 4)

/-! ### Elements -/

@[simp] theorem World.modElem_recompute (r : ElemRef) (f : Element → Element) :
    ((w.modElem r f).due.get l).recompute = (w.due.get l).recompute := by
  unfold World.modElem
  split
  · rfl
  · dsimp only
    split
    · simp only [World.setDue_due, World.setStore_due, Tbl.get_set]
      split
      · next h => rw [h]
      · rfl
    · rfl

@[simp] theorem World.modElements_recompute (k : Nat) (f : Element → Element) :
    ((w.modElements k f).due.get l).recompute = (w.due.get l).recompute := by
  unfold World.modElements
  split
  · rfl
  · exact foldl_recompute (fun _ _ => by simp) _ _

/-! ### Stations -/

@[simp] theorem World.showStandby_due (st : Fin 6) (r : StandbyReq) : (World.showStandby e w st r).due = w.due := rfl

@[simp] theorem World.fillStandby_due (st : Fin 6) : (World.fillStandby e w st).due = w.due := by
  unfold World.fillStandby
  dsimp only
  split
  · rfl
  · split <;> rfl

@[simp] theorem World.handDistance_due (st : Fin 6) (ref : ElemRef) (d : Int) :
    (World.handDistance e w st ref d).due = w.due := by
  unfold World.handDistance
  dsimp only
  split
  · split
    · split <;> rfl
    · rfl
  · rfl

@[simp] theorem World.askStandby_due (st : Fin 6) (key : Nat) (ref : ElemRef) (label : List Byte) (d : Int) :
    (World.askStandby e w l st key ref label d).1.due = w.due := by
  unfold World.askStandby
  dsimp only
  split
  · rfl
  · split
    · rfl
    · split
      · simp only [World.handDistance_due]
      · split <;> split <;> rfl

@[simp] theorem World.giveGo_due (st : Fin 6) (key : Nat) (ref : ElemRef) (label : List Byte) :
    (World.giveGo e w l st key ref label).1.due = w.due := by
  unfold World.giveGo
  dsimp only
  split
  · rfl
  · split
    · rfl
    · rw [World.fillStandby_due]
      split <;> split <;> rfl

/-! ### Ports and the router -/

@[simp] theorem World.arbiterRun_due (p : Fin 8) (n : Nat) : (World.arbiterRun e p n w).due = w.due := by
  induction n generalizing w with
  | zero => rfl
  | succ n ih =>
    unfold World.arbiterRun
    dsimp only
    split
    · rfl
    · split
      · rfl
      · rw [ih]; rfl

@[simp] theorem World.submit_due (p : Fin 8) (msg : CueMsg) (owner : Owner) : (World.submit e w p msg owner).1.due = w.due := by
  unfold World.submit
  dsimp only
  split
  · rfl
  · split
    · rfl
    · exact World.arbiterRun_due ..

@[simp] theorem World.sendLoadTo_recompute (it : Item) (el : Element) (d : Fin 64) (t : Target) :
    ((World.sendLoadTo e w m it el d t).due.get l).recompute = (w.due.get l).recompute := by
  unfold World.sendLoadTo
  split
  · dsimp only
    split <;> simp
  · rfl

@[simp] theorem World.repoint_recompute (d : Fin 64) :
    ((World.repoint e w d).due.get l).recompute = (w.due.get l).recompute := by
  refine foldl_recompute (fun _ _ => foldl_recompute (fun _ _ => ?_) _ _) _ _
  unfold World.repointItem
  split
  · rfl
  · exact foldl_recompute (fun _ _ => World.sendLoadTo_recompute ..) _ _

@[simp] theorem World.resolve_recompute (d : Fin 64) :
    ((World.resolve e w d).1.due.get l).recompute = (w.due.get l).recompute := by
  unfold World.resolve
  dsimp only
  split
  · unfold World.trySwitch
    split <;> simp
  · rfl

@[simp] theorem World.sendLoad_recompute (it : Item) (el : Element) (d : Fin 64) :
    ((World.sendLoad e w m it el d).due.get l).recompute = (w.due.get l).recompute := by
  unfold World.sendLoad
  dsimp only
  split <;> simp

@[simp] theorem World.requestClaim_recompute (k : Nat) (d : Fin 64) :
    ((w.requestClaim m k d).1.due.get l).recompute = (w.due.get l).recompute := by
  unfold World.requestClaim World.setConflict
  dsimp only
  split
  · rfl
  · split
    · dsimp only
      split <;> rfl
    · rw [World.modElements_recompute]
      split <;> rfl

/-! ### Firing by kind -/

@[simp] theorem World.rollClip_recompute (ref : ElemRef) (el : Element) :
    ((World.rollClip e w m ref el).due.get l).recompute = (w.due.get l).recompute := by
  unfold World.rollClip
  split
  · simp
  · dsimp only
    split <;> simp

@[simp] theorem World.displaceNext_recompute (d : Fin 64) :
    ((w.displaceNext m d).due.get l).recompute = (w.due.get l).recompute := by
  unfold World.displaceNext
  split
  · rfl
  · split
    · rfl
    · dsimp only
      split
      · rfl
      · exact foldl_recompute (fun _ _ => by simp) _ _

@[simp] theorem World.loadAtFiring_recompute (it : Item) (el : Element) (d : Fin 64) (t : Target) :
    ((World.loadAtFiring e w m it el d t).1.due.get l).recompute = (w.due.get l).recompute := by
  unfold World.loadAtFiring
  dsimp only
  split
  · simp
  · split <;> simp

@[simp] theorem World.fireClip_recompute (it : Item) (el : Element) (d : Fin 64) :
    ((World.fireClip e w m it el d).1.due.get l).recompute = (w.due.get l).recompute := by
  unfold World.fireClip
  dsimp only
  split
  case h_5 =>
    split
    case h_4 => split <;> simp
    all_goals simp
  all_goals simp

@[simp] theorem World.fireMessage_recompute (ref : ElemRef) (el : Element) (d : Fin 64) (msg : Fin 8 → CueMsg) (stops : Bool) :
    ((World.fireMessage e w m ref el d msg stops).due.get l).recompute = (w.due.get l).recompute := by
  unfold World.fireMessage World.submitFired
  dsimp only
  split
  case h_3 => split <;> split <;> simp
  all_goals simp

@[simp] theorem World.fireCue_recompute (it : Item) (el : Element) (st : Fin 6) :
    ((World.fireCue e w m it el st).due.get l).recompute = (w.due.get l).recompute := by
  unfold World.fireCue
  dsimp only
  split <;> simp

@[simp] theorem World.fireElement_recompute (ref : ElemRef) (due : Fc) :
    ((World.fireElement e w m ref due).1.due.get l).recompute = (w.due.get l).recompute := by
  have hlate : ((World.markLate e w ref due).due.get l).recompute = (w.due.get l).recompute := by
    unfold World.markLate
    split <;> simp
  unfold World.fireElement
  split
  · rfl
  · dsimp only
    split <;> simp [hlate]

/-! ### The fire queue -/

@[simp] theorem World.askEntry_recompute (en : FireEntry) :
    ((World.askEntry e w m en).due.get l).recompute = (w.due.get l).recompute := by
  unfold World.askEntry World.askQueued
  split
  · split
    · split
      · dsimp only
        split <;> simp
      · rfl
    · rfl
  · rfl

@[simp] theorem World.fireEntry_recompute (ref : ElemRef) (due : Fc) :
    ((World.fireEntry e w m ref due).1.due.get l).recompute = (w.due.get l).recompute := by
  unfold World.fireEntry
  dsimp only
  split <;> simp

@[simp] theorem World.skip_recompute (ref : ElemRef) : ((w.skip ref).due.get l).recompute = (w.due.get l).recompute :=
  World.modElem_recompute ..

@[simp] theorem World.takeEntry_recompute (arrival : Bool) (it : Item) (el : Element) (q : List FireEntry)
    (displaced : Option FireEntry) :
    ((World.takeEntry e w m arrival it el q displaced).1.due.get l).recompute = (w.due.get l).recompute := by
  have hback : ∀ v : World, ((v.putBack displaced).due.get l).recompute = (v.due.get l).recompute := by
    intro v
    cases displaced <;> simp [World.putBack]
  have henqueue : ∀ v : World, ((World.enqueue e v m it el).due.get l).recompute = (v.due.get l).recompute := by
    intro v
    unfold World.enqueue
    dsimp only
    split <;> simp
  unfold World.takeEntry
  dsimp only
  split
  · simp [henqueue, hback]
  · split <;> simp [henqueue, hback]

@[simp] theorem World.admitOne_recompute (arrival : Bool) (n : Nat) :
    ((World.admitOne e m arrival n w).due.get l).recompute = (w.due.get l).recompute := by
  induction n generalizing w with
  | zero => rfl
  | succ n ih =>
    unfold World.admitOne
    split
    · rfl
    · split
      · rfl
      · split
        · rfl
        · split
          · simp [ih]
          · dsimp only
            split <;> simp [ih]

@[simp] theorem World.fillQueue_recompute (among : Item → List Element) (n : Nat) :
    ((World.fillQueue e m among n w).due.get l).recompute = (w.due.get l).recompute := by
  induction n generalizing w with
  | zero => rfl
  | succ n ih =>
    unfold World.fillQueue
    dsimp only
    split <;> split <;> simp [ih, World.admitNext]

/-! ### Cycles and the loads that firings wait for -/

@[simp] theorem World.loadReadmitted_recompute (it : Item) (el : Element) :
    ((World.loadReadmitted e w m it el).due.get l).recompute = (w.due.get l).recompute := by
  unfold World.loadReadmitted
  split
  · dsimp only
    split
    · rfl
    · split
      · simp
      · split
        · split
          · split <;> simp
          · simp
        · rfl
  · rfl

@[simp] theorem World.readmitRange_recompute (it : Item) (period : Nat) :
    ((World.readmitRange e w m it period).due.get l).recompute = (w.due.get l).recompute := by
  refine (foldl_recompute (fun _ _ => World.loadReadmitted_recompute ..) _ _).trans ?_
  exact foldl_recompute (fun _ _ => by simp) _ w

@[simp] theorem World.cycleTest_recompute : ((World.cycleTest e w m).due.get l).recompute = (w.due.get l).recompute := by
  unfold World.cycleTest
  generalize cycleRounds = n
  induction n generalizing w with
  | zero => rfl
  | succ n ih =>
    unfold World.cycleTests
    split
    · rfl
    · split
      · rfl
      · split
        · rfl
        · dsimp only
          split <;> simp [ih]

theorem World.finishWait_recompute (en : FireEntry) :
    ((World.finishWait e m w en).due.get l).recompute = (w.due.get l).recompute := by
  unfold World.finishWait World.admitNext
  split
  · rfl
  · split
    · simp
    · split
      · dsimp only
        split <;> simp
      · simp
      · rfl

theorem World.finishWaits_recompute : ((World.finishWaits e w m).due.get l).recompute = (w.due.get l).recompute := by
  unfold World.finishWaits World.testCompleted
  dsimp only
  split
  · simp only [World.cycleTest_recompute, foldl_recompute (World.finishWait_recompute e · l m)]
  · split <;> simp only [World.cycleTest_recompute, foldl_recompute (World.finishWait_recompute e · l m)]

end Sys2Proof.Machine
end

section
/-! What a recompute, a carry-out and the settling of an event do to a lane's timing result (R72, R73, R86, R87). -/
namespace Sys2Proof.Machine

/-! ### Records and marks -/

/-- The records of the items decide what is found under a key, as far as they go. -/
theorem Store.item?_map_record (s : Store) (k : Nat) :
    (s.item? k).map Item.record = s.records.find? (fun it => decide (it.key = k)) := by
  rw [records, List.find?_map]
  rfl

theorem Store.item?_of_records_eq {s s' : Store} {k : Nat} {it : Item} (h : s'.records = s.records) (hit : s.item? k = some it) :
    ∃ it', s'.item? k = some it' ∧ it'.record = it.record :=
  Option.map_eq_some_iff.mp (by rw [item?_map_record, h, ← item?_map_record, hit, Option.map_some])

/-- A change of the elements' operating fields leaves the records (R18, R21). -/
theorem Store.records_map_elements (s : Store) {f : Item → Item} (hf : ∀ it, f it = { it with elements := (f it).elements })
    (hrenew : ∀ it, (f it).elements.map Element.renew = it.elements.map Element.renew) :
    Store.records { s with items := s.items.map f } = s.records := by
  have hrecord : ∀ it, (f it).record = it.record := fun it => by
    rw [Item.record, hrenew, hf]
    rfl
  simp only [records, List.map_map, Function.comp_def, hrecord]

/-- A marking leaves every item under its key, with the mark of the plan where it stands in the lane's order (R86). -/
theorem Store.item?_mark (s : Store) (l : Fin 4) (plan : List Nat) (k : Nat) :
    (s.mark l plan).item? k = (s.item? k).map (fun it =>
      if it.lane = l ∧ it.place = .order then { it with proposed := plan.contains it.key } else it) := by
  have hkey : ∀ it : Item,
      (if it.lane = l ∧ it.place = .order then { it with proposed := plan.contains it.key } else it).key = it.key := by
    intro it
    split <;> rfl
  simp only [mark, item?, List.find?_map, Function.comp_def, hkey]

theorem LaneCfg.marks_iff (c : LaneCfg) : c.marks = true ↔ c.fitMode = .advise ∨ (c.fitMode = .auto ∧ c.substitute ≠ none) := by
  simp [marks, Option.isSome_iff_ne_none]

theorem Item.livePending_eq (it : Item) :
    it.livePending = decide ((it.state = .pending ∨ it.state = .next) ∧ it.disposition = .inOrder) := by
  simp [livePending]

/-! ### The watch of NEXT's standbys (R101) -/

/-- What the blocks' working leaves of the timing results, the rundown, the condition table and the lanes. -/
structure World.SameRundown (v w : World) : Prop where
  timing : w.timing = v.timing
  records : w.store.records = v.store.records
  orders : w.store.orders = v.store.orders
  standbys : w.store.standbys = v.store.standbys
  freeItems : w.store.freeItems = v.store.freeItems
  freeElements : w.store.freeElements = v.store.freeElements
  monitor : w.monitor = v.monitor
  standing : ∀ l, (w.lane l).standing = (v.lane l).standing

theorem World.SameRundown.refl (v : World) : v.SameRundown v := ⟨rfl, rfl, rfl, rfl, rfl, rfl, rfl, fun _ => rfl⟩

theorem World.setLane_standing {w : World} {l : Fin 4} {r : LaneRec} (hr : r.standing = (w.lane l).standing) (l' : Fin 4) :
    ((w.setLane l r).lane l').standing = (w.lane l').standing := by
  rw [World.setLane_lane]
  split
  · next hl => rw [hr, hl]
  · rfl

theorem working_sameRundown (v : World) : Working (World.SameRundown v) where
  lane _ _ h hr := { h with standing := fun l' => (World.setLane_standing hr l').trans (h.standing l') }
  elems _ h hf hrenew := { h with records := (Store.records_map_elements _ hf hrenew).trans h.records }
  port _ _ h _ _ := { h with }
  station _ _ h _ := { h with }
  entry _ _ h _ _ := { h with }
  rolls _ h := { h with }
  due _ _ h := { h with }
  loads _ h := { h with }
  out _ h _ := { h with }

theorem Working.watchCue {P : World → Prop} (h : Working P) (e : Env) (l : Fin 4) (front : Int) (ref : ElemRef) {w : World}
    (hw : P w) : P (World.watchCue e l front w ref) := by
  unfold World.watchCue
  split
  · exact hw
  · split
    · next it el _ _ st _ _ _ =>
      dsimp only
      split
      · exact h.handDistance e _ _ _ hw
      · split
        · have hasked := h.askStandby e l st it.key ref it.label (front + el.offset) hw
          split
          · exact h.fail _ _ hasked
          · exact h.addCue _ _ hasked
        · exact hw
    · exact hw

theorem Working.watch {P : World → Prop} (h : Working P) (e : Env) (l : Fin 4) {w : World} (hw : P w) : P (World.watch e w l) := by
  unfold World.watch
  split
  · exact hw
  · exact Working.foldl _ (fun _ _ hw => h.watchCue e _ _ _ hw) _ hw

theorem World.watch_recompute (e : Env) (w : World) (l m : Fin 4) :
    ((World.watch e w m).due.get l).recompute = (w.due.get l).recompute := by
  unfold World.watch
  split
  · rfl
  · refine foldl_recompute (fun w ref => ?_) _ _
    unfold World.watchCue
    split
    · rfl
    · split
      · dsimp only
        split
        · simp
        · split
          · split <;> simp
          · rfl
      · rfl

/-! ### A recompute (R72, R73, R86) -/

section Recompute
variable (e : Env) (w : World) (l m : Fin 4)

/-- A recompute writes the result and the marks; the watch that follows leaves the rundown (R72, R86, R101). -/
theorem World.recompute_sameRundown :
    World.SameRundown ((w.setTiming l (World.laneTiming e w l)).setStore
      (w.store.mark l (if (e.cfg.lanes.get l).marks then (World.laneTiming e w l).plan else []))) (World.recompute e w l) :=
  (working_sameRundown _).due _ _ ((working_sameRundown _).watch e l (.refl _))

theorem World.recompute_timing : (World.recompute e w l).timing = w.timing.set l (World.laneTiming e w l) :=
  (World.recompute_sameRundown e w l).timing

theorem World.recompute_computedAt_self : ((World.recompute e w l).timing.get l).computedAt = e.now := by
  rw [World.recompute_timing, Tbl.get_set_self]
  rfl

theorem World.recompute_computedAt {l : Fin 4} (h : (w.timing.get l).computedAt = e.now) :
    ((World.recompute e w m).timing.get l).computedAt = e.now := by
  by_cases hm : m = l
  · rw [hm, World.recompute_computedAt_self]
  · rw [World.recompute_timing, Tbl.get_set_ne _ _ hm, h]

/-- A recompute leaves what is due for another lane. -/
theorem World.recompute_recompute_of_ne {l m : Fin 4} (h : m ≠ l) :
    ((World.recompute e w m).due.get l).recompute = (w.due.get l).recompute := by
  unfold World.recompute
  dsimp only
  rw [World.setDue_due, Tbl.get_set_ne _ _ h, World.watch_recompute]
  rfl

/-- The result is the one of the lane's ON_AIR item and its included items, the live pending ones below the cursor (R9, R72). -/
theorem World.laneTiming_eq : World.laneTiming e w l =
    computeTiming e ((e.cfg.hardOuts.get l).map (·.habs)) (e.cfg.lanes.get l) ((w.lane l).onAir.bind w.item?) (w.lane l).next
      (((belowCursor (w.store.orders.get l) (w.lane l).cursor).filterMap w.item?).filter (fun it =>
        decide ((it.state = .pending ∨ it.state = .next) ∧ it.disposition = .inOrder))) := by
  simp only [← Item.livePending_eq]
  rfl

/-- Every item is found after a recompute as it was before, but for its mark and what the watch does to its elements (R86, R101). -/
theorem World.recompute_item {k : Nat} {it : Item} (hit : w.item? k = some it) :
    let c := e.cfg.lanes.get l
    let marks := c.fitMode = .advise ∨ (c.fitMode = .auto ∧ c.substitute ≠ none)
    let mark := if it.lane = l ∧ it.place = .order then decide (marks ∧ it.key ∈ (World.laneTiming e w l).plan) else it.proposed
    ∃ it', (World.recompute e w l).item? k = some it' ∧ it'.record = { it.record with proposed := mark } := by
  intro c marks mark
  have hmarked : (w.store.mark l (if c.marks then (World.laneTiming e w l).plan else [])).item? k = some
      (if it.lane = l ∧ it.place = .order then
        { it with proposed := (if c.marks then (World.laneTiming e w l).plan else []).contains it.key } else it) := by
    rw [Store.item?_mark]
    exact congrArg (Option.map _) hit
  obtain ⟨it', hit', hrecord⟩ := Store.item?_of_records_eq (World.recompute_sameRundown e w l).records hmarked
  refine ⟨it', hit', hrecord.trans ?_⟩
  have hproposed : (if c.marks then (World.laneTiming e w l).plan else []).contains it.key =
      decide (marks ∧ it.key ∈ (World.laneTiming e w l).plan) := by
    have hmarks : c.marks = decide marks := by rw [Bool.eq_iff_iff, c.marks_iff, decide_eq_true_iff]
    rw [hmarks]
    by_cases hm : marks <;> simp [hm]
  rw [hproposed]
  simp only [mark]
  split <;> rfl

end Recompute

/-! ### What settling leaves of the timing results -/

theorem working_timing (t : Tbl 4 Timing) : Working (fun w => w.timing = t) where
  lane _ _ h _ := h
  elems _ h _ _ := h
  port _ _ h _ _ := h
  station _ _ h _ := h
  entry _ _ h _ _ := h
  rolls _ h := h
  due _ _ h := h
  loads _ h := h
  out _ h _ := h

section Timing
variable (e : Env) (w : World) (l : Fin 4)

@[simp] theorem World.notice_timing (k : Cond) (before after : Inst) : (World.notice e k before after w).timing = w.timing := by
  unfold World.notice
  split <;> rfl

@[simp] theorem World.judge_timing : (World.judge e w).timing = w.timing := by
  refine (foldl_read World.timing (fun v m => ?_) _ _).trans (by simp)
  simp [World.judgeLane]

/-! ### Operations of the blocks' working -/

@[simp] theorem World.modElem_timing (r : ElemRef) (f : Element → Element) : (w.modElem r f).timing = w.timing := by
  unfold World.modElem
  split
  · rfl
  · dsimp only
    split <;> rfl

@[simp] theorem World.resolve_timing (d : Fin 64) : (World.resolve e w d).1.timing = w.timing :=
  (working_timing _).resolve e d rfl

@[simp] theorem World.submitSafe_timing (t : Target) : (World.submitSafe e w t).timing = w.timing :=
  (working_timing _).submitSafe e t rfl

@[simp] theorem World.releaseItem_timing (k : Nat) : (World.releaseItem e w l k).timing = w.timing :=
  (working_timing _).releaseItem e l k rfl

@[simp] theorem World.sendDeferred_timing : (World.sendDeferred e w l).timing = w.timing :=
  (working_timing _).sendDeferred e l rfl

@[simp] theorem World.cleanWaiters_timing : (w.cleanWaiters l).timing = w.timing := (working_timing _).cleanWaiters l rfl

@[simp] theorem World.clearItemCues_timing (item : Ref) (go : Bool) : (World.clearItemCues e w item go).timing = w.timing :=
  (working_timing _).clearItemCues e item go rfl

@[simp] theorem World.arming_timing : (World.arm e w l).timing = w.timing := by
  unfold World.arm
  split
  · rfl
  · exact foldl_read World.timing (fun _ _ => (working_timing _).armClip e _ _ rfl) _ _

/-! ### Leaving air and takes -/

@[simp] theorem World.freeItem_timing (k : Nat) : (w.freeItem k).timing = w.timing := by
  unfold World.freeItem
  split
  · rfl
  · next it _ =>
    have hforget : (it.elements.foldl (fun w el => w.forgetRoll (it.refOf el)) w).timing = w.timing :=
      foldl_read World.timing (fun w el => World.forgetRoll_timing w (it.refOf el)) _ _
    dsimp only
    split <;> simpa using hforget

@[simp] theorem World.retain_timing (n : Nat) : (w.retain l n).timing = w.timing :=
  foldl_read World.timing (fun _ _ => World.freeItem_timing ..) _ _

@[simp] theorem World.leaveAir_timing (send : Bool) : (World.leaveAir e w l send).timing = w.timing := by
  have hqueue : ((w.lane l).fireQueue.foldl (fun w en => w.modElem en.ref (fun x => { x with fire := .waiting }))
      (w.modQueue l (fun _ => []))).timing = w.timing :=
    foldl_read World.timing (fun w (en : FireEntry) => World.modElem_timing w en.ref _) _ _
  unfold World.leaveAir
  split
  · rfl
  · dsimp only
    split <;> split <;> simp [hqueue]

@[simp] theorem World.deriveNext_timing : (World.deriveNext e w l).timing = w.timing := by
  have hdisarm : (World.disarm e w l).timing = w.timing := by
    unfold World.disarm
    split <;> simp
  unfold World.deriveNext
  split
  · rfl
  · dsimp only
    split
    · rfl
    · split <;> simp [hdisarm]

@[simp] theorem World.goOnAir_timing (k planned : Nat) : (World.goOnAir e w l k planned).timing = w.timing :=
  (working_timing _).testCompleted e _ l ((working_timing _).fillQueue e l _ _ rfl)

@[simp] theorem World.endTake_timing (left : Bool) : (World.endTake e w l left).timing = w.timing := by
  cases left <;> simp [World.endTake]

@[simp] theorem World.fillingTake_timing : (World.fillingTake e w l).timing = w.timing := by
  unfold World.fillingTake
  split <;> simp

/-! ### Action levels -/

@[simp] theorem World.setLevel_timing (level : Nat) (entry : Bool) : (World.setLevel e w l level entry).timing = w.timing := by
  unfold World.setLevel
  dsimp only
  split
  · rfl
  · split
    · rfl
    · split <;> simp

@[simp] theorem World.applyLevel_timing (formed : Fin 4 → Nat) : (World.applyLevel e formed w l).timing = w.timing := by
  have hsafe : ∀ v : World, (World.sendSafe e v l).timing = v.timing := fun v =>
    foldl_read World.timing (fun v d => by
      dsimp only
      split <;> simp) _ _
  unfold World.applyLevel
  dsimp only
  split
  · rfl
  · split <;> simp [hsafe]

end Timing

/-! ### Settling -/

/-- A lane's timing result is of the frame in hand, or its recompute is due. -/
def World.FreshOrDue (e : Env) (w : World) (l : Fin 4) : Prop :=
  (w.timing.get l).computedAt = e.now ∨ (w.due.get l).recompute = true

/-- What a round of settling does for each lane between the loads waited for and the judgements: it recomputes one that is due (R73). -/
def World.recomputeDue (e : Env) (w : World) (m : Fin 4) : World :=
  if (w.due.get m).recompute then World.recompute e w m else w

section Settle
variable {e : Env} {w : World} {l : Fin 4}

theorem World.recomputeDue_computedAt (m : Fin 4) (h : (w.timing.get l).computedAt = e.now) :
    ((World.recomputeDue e w m).timing.get l).computedAt = e.now := by
  unfold World.recomputeDue
  split
  · exact World.recompute_computedAt e w m h
  · exact h

theorem World.FreshOrDue.recomputeDue_self (h : w.FreshOrDue e l) :
    ((World.recomputeDue e w l).timing.get l).computedAt = e.now := by
  unfold World.recomputeDue
  split
  · exact World.recompute_computedAt_self ..
  · next hdue => exact h.resolve_right hdue

theorem World.FreshOrDue.recomputeDue (m : Fin 4) (h : w.FreshOrDue e l) : (World.recomputeDue e w m).FreshOrDue e l := by
  by_cases hm : m = l
  · exact .inl (hm ▸ (hm ▸ h).recomputeDue_self)
  · unfold World.recomputeDue
    split
    · exact h.imp (World.recompute_computedAt e w m) (World.recompute_recompute_of_ne e w hm).trans
    · exact h

/-- The recomputes of a round reach every lane that is due (R73). -/
theorem World.FreshOrDue.foldl_recomputeDue {lanes : List (Fin 4)} (hl : l ∈ lanes) (h : w.FreshOrDue e l) :
    ((lanes.foldl (World.recomputeDue e) w).timing.get l).computedAt = e.now := by
  obtain ⟨before, after, rfl⟩ := List.append_of_mem hl
  rw [List.foldl_append, List.foldl_cons]
  have hbefore := Working.foldl (P := fun v => v.FreshOrDue e l) _ (fun _ m hv => hv.recomputeDue m) before h
  exact Working.foldl (P := fun v => (v.timing.get l).computedAt = e.now) _
    (fun _ m hv => World.recomputeDue_computedAt m hv) after hbefore.recomputeDue_self

theorem World.FreshOrDue.finishWaits (h : w.FreshOrDue e l) : ((places 4).foldl (World.finishWaits e) w).FreshOrDue e l := by
  unfold World.FreshOrDue
  rw [foldl_read World.timing (fun v m => (working_timing _).finishWaits e m rfl),
    foldl_recompute (fun v m => World.finishWaits_recompute e v l m)]
  exact h

theorem World.FreshOrDue.settleRound (h : w.FreshOrDue e l) : ((World.settleRound e w).timing.get l).computedAt = e.now := by
  unfold World.settleRound
  dsimp only
  rw [foldl_read World.timing (fun v m => World.applyLevel_timing e v m _), World.judge_timing]
  exact h.finishWaits.foldl_recomputeDue (List.mem_finRange l)

theorem World.FreshOrDue.settleRounds (n : Nat) (h : w.FreshOrDue e l) :
    ((World.settleRounds e n w).timing.get l).computedAt = e.now := by
  induction n generalizing w with
  | zero => exact h.settleRound
  | succ n ih =>
    unfold World.settleRounds
    dsimp only
    split
    · exact ih (.inl h.settleRound)
    · exact h.settleRound

/-- A lane that is due is recomputed before the event ends, and no later round takes its result back (R73). -/
theorem World.settle_computedAt (h : (w.due.get l).recompute = true) :
    ((World.settle e w).timing.get l).computedAt = e.now :=
  World.FreshOrDue.settleRounds 64 (.inr h)

end Settle

/-! ### Carrying a plan out (R87) -/

theorem Store.drop_eq (s : Store) (plan : List Nat) : s.drop plan = { s with items := s.items.map (fun it =>
    if it.key ∈ plan then { it with disposition := .dropped, proposed := false } else it) } := by
  simp only [drop, List.contains_iff_mem]

/-- Settles O52: the plan by what `takeCandidates` takes of `candidateOrder`, the recompute by what its watch leaves, the settling by
its rounds, and the carry-out by its definition. -/
theorem fitPlanTakesCandidatesInOrder : Obligations.FitPlanTakesCandidatesInOrder := by
  refine ⟨?plan, ?recompute, ?event, ?carryOut⟩
  case plan =>
    intro e habs cfg onAir next items t candidates
    refine ⟨distances_length .., fun h => ?_, fun o ho hpos hfit => ?_⟩
    · refine computeTiming_fit_of_none _ _ _ _ _ _ (h.imp_left ?_)
      rintro rfl
      rfl
    · obtain ⟨hplan, hresidual⟩ := computeTiming_fit_of_over _ _ _ _ _ _ ho hpos hfit
      obtain ⟨taken, left, hsplit, hkeys, hrest, hend, hbefore⟩ := takeCandidates_spec o (candidateOrder candidates)
      exact ⟨_, taken, left, hsplit, candidateOrder_sorted _, candidateOrder_filter _, hplan.trans hkeys,
        hresidual.trans (congrArg some hrest), hend, hbefore⟩
  case recompute =>
    intro e w l c w' t marks
    have ht : t = World.laneTiming e w l := (World.laneTiming_eq e w l).symm
    have hsame := World.recompute_sameRundown e w l
    rw [ht]
    exact ⟨hsame.timing, fun k it hit => World.recompute_item e w l hit, hsame.orders, hsame.standbys, hsame.freeItems,
      hsame.freeElements, hsame.monitor, hsame.standing⟩
  case event =>
    intro e w l
    have hengine : Task.engine l ∈ (places 4).map .engine ++ (places 4).map .lane :=
      List.mem_append_left _ (List.mem_map_of_mem (List.mem_finRange l))
    exact ⟨World.settle_computedAt, List.mem_append_left _ hengine, List.mem_append_left _ hengine, rfl⟩
  case carryOut =>
    intro e w l c made plan carried dropped
    have hdropped : made.setStore (made.store.drop plan) = dropped := by rw [Store.drop_eq]
    refine ⟨fun h => if_neg h, fun h => ?_⟩
    rw [← hdropped]
    exact if_pos h

end Sys2Proof.Machine
end

section
/-! CALL and ANSWER (R188, R189): what their handlers answer, by the flag of the station that they name. -/
namespace Sys2Proof.Machine

/-! ### What a request answers by what its handler does -/

section Answers
variable {s : State} {kind tag : Byte} {p : List Byte} {rest : List Request} {h : Handler} (hs : s.Asks kind tag p rest)
include hs

theorem State.Asks.refused {status : Status} (hh : h s.begun p = .error status) :
    Machine.request kind h s = .next (s.replied rest tag s.begun status []) := by
  rw [hs.request h, hh]; rfl

theorem State.Asks.same {reply : List Byte} (hh : h s.begun p = .ok (.same reply)) :
    Machine.request kind h s = .next (s.replied rest tag s.begun .ok reply) := by
  rw [hs.request h, hh]; rfl

theorem State.Asks.write {d : Dev} {reply : List Byte} (hh : h s.begun p = .ok (.write d reply)) :
    Machine.request kind h s = .next (s.replied rest tag d .ok reply) := by
  rw [hs.request h, hh]; rfl

end Answers

theorem numbered_above {n k : Nat} (h : n ≤ k) : numbered n k = .error .badArg := by
  simp [numbered, place?, Nat.not_lt.mpr h]

/-! ### A flag moved, and the station told -/

/-- A station's record written by a command that has driven nothing yet, and a frame without fields sent to it where it was PRESENT. -/
def Dev.told (d : Dev) (st : Fin 6) (r : Station) (kind : Byte) : Dev :=
  { d with world := { d.world with
    stations := d.world.stations.set st r
    out := { d.world.out with
      station := if (d.world.stations.get st).present then [(st, linkFrame kind [])] else [] } } }

/-- Where nothing has been sent yet, `Dev.told` is the model's own writing and sending. -/
theorem Dev.withWorld_sendStation_eq_told {d : Dev} (hout : d.world.out.station = []) (st : Fin 6) (f : Station → Station)
    (kind : Byte) :
    d.withWorld (if (d.world.stations.get st).present then (d.world.modStation st f).sendStation st kind []
      else d.world.modStation st f) = d.told st (f (d.world.stations.get st)) kind := by
  unfold Dev.told
  split
  case isTrue => simp [Dev.withWorld, World.sendStation, World.modStation, World.setStation, hout]
  case isFalse => simp [Dev.withWorld, World.modStation, World.setStation, ← hout]

@[simp] theorem Dev.told_callBytes (d : Dev) (st : Fin 6) (r : Station) (kind : Byte) :
    (d.told st r kind).callBytes st = flag r.callFrom ++ flag r.callTo := by
  simp [Dev.callBytes, Dev.told]

/-! ### The handlers -/

section Handlers
variable {d : Dev} {p : List Byte} {n : Nat} {on : Bool} {st : Fin 6}

theorem callHandler_above (hp : readAll readPorten p = some (n, on)) (hn : 6 ≤ n) : callHandler d p = .error .badArg := by
  simp [callHandler, fields_eq hp, numbered_above hn]

theorem callHandler_same (hp : readAll readPorten p = some (n, on)) (hn : place? 6 n = some st)
    (hflag : (d.world.stations.get st).callTo = on) : callHandler d p = .ok (.same (d.callBytes st)) := by
  simp [callHandler, fields_eq hp, numbered_eq hn, hflag]

theorem callHandler_moves (hout : d.world.out.station = []) (hp : readAll readPorten p = some (n, on))
    (hn : place? 6 n = some st) (hflag : (d.world.stations.get st).callTo ≠ on) :
    callHandler d p = .ok (.write
      (d.told st { d.world.stations.get st with callTo := on } (if on then 0x16#8 else 0x17#8))
      (flag (d.world.stations.get st).callFrom ++ flag on)) := by
  simp [callHandler, fields_eq hp, numbered_eq hn, hflag, World.sendCall, Dev.withWorld_sendStation_eq_told hout]

theorem answerHandler_above (hp : readAll readByte p = some n) (hn : 6 ≤ n) : answerHandler d p = .error .badArg := by
  simp [answerHandler, fields_eq hp, numbered_above hn]

theorem answerHandler_same (hp : readAll readByte p = some n) (hn : place? 6 n = some st)
    (hflag : (d.world.stations.get st).callFrom = false) : answerHandler d p = .ok (.same (d.callBytes st)) := by
  simp [answerHandler, fields_eq hp, numbered_eq hn, hflag]

theorem answerHandler_clears (hout : d.world.out.station = []) (hp : readAll readByte p = some n)
    (hn : place? 6 n = some st) (hflag : (d.world.stations.get st).callFrom = true) :
    answerHandler d p = .ok (.write (d.told st { d.world.stations.get st with callFrom := false } 0x18#8)
      (flag false ++ flag (d.world.stations.get st).callTo)) := by
  simp [answerHandler, fields_eq hp, numbered_eq hn, hflag, World.sendCallAnswered, Dev.withWorld_sendStation_eq_told hout]

end Handlers

/-- A command begins with nothing sent to a station. -/
theorem State.begun_station (s : State) : s.begun.world.out.station = [] := rfl

/-- Settles O41: each clause is one answer of the request's handler, by the number of the station and by the flag as it stood. -/
theorem callAndAnswerMoveTheCallFlags : Obligations.CallAndAnswerMoveTheCallFlags := by
  refine ⟨fun s tag p rest n hn => ⟨?callAbove, ?answerAbove⟩, ?station⟩
  case callAbove => exact fun on hs hp => hs.refused (callHandler_above hp hn)
  case answerAbove => exact fun hs hp => hs.refused (answerHandler_above hp hn)
  case station =>
    intro s tag p rest n st w r told hst
    refine ⟨?callSame, ?callMoves, ?answerSame, ?answerClears⟩
    case callSame =>
      rintro on hs hp rfl
      exact hs.same (callHandler_same hp hst rfl)
    case callMoves => exact fun on hs hp hflag => hs.write (callHandler_moves s.begun_station hp hst hflag)
    case answerSame =>
      intro hs hp hflag
      rw [← hflag]
      exact hs.same (answerHandler_same hp hst hflag)
    case answerClears => exact fun hs hp hflag => hs.write (answerHandler_clears s.begun_station hp hst hflag)

end Sys2Proof.Machine
end

section
/-! The lane sequencer's operations are made of changes of three further kinds (R97 to R113): a lane record that keeps in good order
whether it is IDLE or not, operating fields of items, and items freed. `Deriving` is what NEXT and the change notices need of a
property, `Sequencing` what takes need; each has one lemma for each shared operation, as `Working` has. -/
namespace Sys2Proof.Machine

-- One proof is checked at a time: the tests above leave little memory for proofs side by side.
set_option Elab.async false

/-- `P` is kept by the working of the blocks, and in the lanes `L` by what deriving NEXT changes: its item's state, NEXT and GATE. -/
structure Deriving (L : Fin 4 → Prop) (P : World → Prop) : Prop extends Working P where
  derive : ∀ {w} l r, L l → P w → r.kept = (w.lane l).kept → r.cursor = (w.lane l).cursor →
    ((w.lane l).Ok → r.Ok) → P (w.setLane l r)
  states : ∀ {w} (f : Item → Item), P w → (∀ it, (f it).record = it.record) →
    P (w.setStore { w.store with items := w.store.items.map f })

/-- `P` is kept by the working of the blocks, and in the lanes `L` by what a take changes: the lane's record but for whether it is
IDLE, operating fields of items, and items freed, those of the orders of `L` being of lanes of `L`. -/
structure Sequencing (L : Fin 4 → Prop) (P : World → Prop) : Prop extends Working P where
  run : ∀ {w} l r, L l → P w → (r.state = .idle ↔ (w.lane l).state = .idle) → ((w.lane l).Ok → r.Ok) → P (w.setLane l r)
  items : ∀ {w} (f : Item → Item), P w → (∀ it, (f it).content = it.content) →
    P (w.setStore { w.store with items := w.store.items.map f })
  free : ∀ {w} k, P w → (∀ it, w.item? k = some it → L it.lane) → P (w.freeItem k)
  order : ∀ {w} l k it, L l → P w → k ∈ w.store.orders.get l → w.item? k = some it → L it.lane

/-! ### What a lane record keeps -/

theorem LaneRec.kept_of_standing {r r' : LaneRec} (h : r'.standing = r.standing) : r'.kept = r.kept := by
  have hs : r'.state = r.state := (congrArg LaneRec.state h : r'.standing.state = r.standing.state)
  simp only [LaneRec.kept, h, hs]

theorem LaneRec.idle_iff_of_kept {r r' : LaneRec} (h : r'.kept = r.kept) : r'.state = .idle ↔ r.state = .idle := by
  have hs : (if r'.state = .idle then LaneState.idle else .standby) = if r.state = .idle then LaneState.idle else .standby :=
    congrArg LaneRec.state h
  by_cases h1 : r'.state = .idle <;> by_cases h2 : r.state = .idle <;> simp_all

theorem LaneRec.idle_iff_of_standing {r r' : LaneRec} (h : r'.standing = r.standing) : r'.state = .idle ↔ r.state = .idle :=
  LaneRec.idle_iff_of_kept (LaneRec.kept_of_standing h)

theorem LaneRec.ok_of_not_idle {r : LaneRec} (h : r.state ≠ .idle) : r.Ok := fun hi => absurd hi h

theorem LaneRec.ok_of_standing {r r' : LaneRec} (h : r'.standing = r.standing) (hok : r.Ok) : r'.Ok := by
  have field : ∀ {α : Type} (g : LaneRec → α), g r'.standing = g r.standing := fun g => congrArg g h
  intro hi
  obtain ⟨h1, h2, h3, h4, h5, h6⟩ := hok ((field LaneRec.state).symm.trans hi)
  exact ⟨(field LaneRec.onAir).trans h1, (field LaneRec.next).trans h2, (field LaneRec.operator).trans h3,
    (field LaneRec.action).trans h4, (field LaneRec.gate).trans h5, (field LaneRec.gateDue).trans h6⟩

theorem laneStateOf_ne_idle (o : Option Place) (r : LaneRec) : laneStateOf o r ≠ .idle := by
  induction o with
  | none => simp [laneStateOf]
  | some pl =>
    induction pl with
    | standby => simp [laneStateOf]
    | order => unfold laneStateOf; dsimp only; split <;> [simp; (split <;> simp)]

/-- Setting the state by R95 starts and stops no lane. -/
theorem World.setState_idle_iff (w : World) (l l' : Fin 4) :
    ((w.setState l).lane l').state = .idle ↔ (w.lane l').state = .idle := by
  unfold World.setState
  rw [World.modLane_lane]
  split
  · split
    · rfl
    · next h => simp [laneStateOf_ne_idle, h]
  · rfl

/-! ### Operating fields of items -/

theorem Element.renew_renew (el : Element) : el.renew.renew = el.renew := rfl

theorem Element.disarm_renew (el : Element) : el.disarm.renew = el.renew := by
  have hload : (if el.content.isClip then el.unload else el).renew = el.renew := by split <;> rfl
  unfold Element.disarm
  rw [← hload]
  generalize (if el.content.isClip then el.unload else el) = el1
  dsimp only
  split
  · split <;> rfl
  · rfl

theorem Item.content_of_record {a b : Item} (h : a.record = b.record) : a.content = b.content :=
  congrArg (fun it : Item => { it with start := none, actual := none, effPlanned := none, proposed := false }) h

theorem Item.content_of_elements {f : Item → Item} (it : Item) (hf : f it = { it with elements := (f it).elements })
    (hr : (f it).elements.map Element.renew = it.elements.map Element.renew) : (f it).content = it.content := by
  rw [hf]
  simp only [Item.content, hr]

theorem Item.leaveAir_content (e : Env) (it : Item) : (it.leaveAir e).content = it.content := by
  unfold Item.leaveAir
  split <;> rfl

/-! ### Deriving NEXT -/

section Deriving
variable {L : Fin 4 → Prop} {P : World → Prop} (h : Deriving L P)
include h

/-- What is derived in a lane that is not IDLE leaves it so. -/
theorem Deriving.and_started (l : Fin 4) : Deriving L (fun w => P w ∧ (w.lane l).state ≠ .idle) where
  lane l' r hw hr := by
    refine ⟨h.lane l' r hw.1 hr, ?_⟩
    rw [World.setLane_lane]
    split
    · next heq => subst heq; exact fun hi => hw.2 ((LaneRec.idle_iff_of_standing hr).1 hi)
    · exact hw.2
  elems f hw h1 h2 := ⟨h.elems f hw.1 h1 h2, hw.2⟩
  port p r hw h1 h2 := ⟨h.port p r hw.1 h1 h2, hw.2⟩
  station st r hw h1 := ⟨h.station st r hw.1 h1, hw.2⟩
  entry d m hw h1 h2 := ⟨h.entry d m hw.1 h1 h2, hw.2⟩
  rolls r hw := ⟨h.rolls r hw.1, hw.2⟩
  due l d hw := ⟨h.due l d hw.1, hw.2⟩
  loads n hw := ⟨h.loads n hw.1, hw.2⟩
  out o hw h1 := ⟨h.out o hw.1 h1, hw.2⟩
  derive l' r hl hw hr hc hok := by
    refine ⟨h.derive l' r hl hw.1 hr hc hok, ?_⟩
    rw [World.setLane_lane]
    split
    · next heq => subst heq; exact fun hi => hw.2 ((LaneRec.idle_iff_of_kept hr).1 hi)
    · exact hw.2
  states f hw hf := ⟨h.states f hw.1 hf, hw.2⟩

theorem Deriving.modItem (k : Nat) (f : Item → Item) (hf : ∀ it, (f it).record = it.record) {w : World} (hw : P w) :
    P (w.modItem k f) :=
  h.states _ hw (fun it => by split <;> [exact hf it; rfl])

theorem Deriving.disarm (e : Env) (l : Fin 4) (hl : L l) {w : World} (hw : P w) : P (World.disarm e w l) := by
  unfold World.disarm
  split
  · exact hw
  · next it hit =>
    have h0 : P (w.modLane l (fun r => { r with next := none, deferred := [] })) :=
      h.derive l _ hl hw rfl rfl (fun hok hi => by
        obtain ⟨h1, -, h3⟩ := hok hi
        exact ⟨h1, rfl, h3⟩)
    have h1 := h.modLane l (LaneRec.dropItemLoads it.ref) (fun _ => rfl)
      (h.releaseItem e l it.key (h.askRecompute l h0))
    have h2 := h.modLane l (LaneRec.dropItemCues it.ref) (fun _ => rfl) (h.clearItemCues e it.ref false h1)
    refine h.modItem it.key _ (fun i => ?_) h2
    simp only [Item.record, List.map_map]
    congr 1
    exact List.map_congr_left fun el _ => el.disarm_renew

theorem Deriving.arm (e : Env) (l : Fin 4) {w : World} (hw : P w) : P (World.arm e w l) := by
  unfold World.arm
  split
  · exact hw
  · exact Working.foldl _ (fun _ _ hw => h.armClip e _ _ hw) _ hw

/-- An IDLE lane derives nothing; in another, NEXT may be set. -/
theorem Deriving.deriveNext (e : Env) (l : Fin 4) (hl : L l) {w : World} (hw : P w) : P (World.deriveNext e w l) := by
  unfold World.deriveNext
  split
  · exact hw
  · next hs =>
    dsimp only
    split
    · exact hw
    · obtain ⟨h1, hs1⟩ := (h.and_started l).disarm e l hl ⟨hw, hs⟩
      split
      · exact h.askRecompute l h1
      · next k hk =>
        have h2 := h.modItem k (fun i => { i with state := .next }) (fun _ => rfl) h1
        exact h.askRecompute l (h.arm e l (h.derive l _ hl h2 rfl rfl (fun _ => LaneRec.ok_of_not_idle hs1)))

theorem Deriving.setState (l : Fin 4) (hl : L l) {w : World} (hw : P w) : P (w.setState l) := by
  refine h.derive l _ hl hw ?_ ?_ ?_ <;> beta_reduce
  · split
    · rfl
    · next hs => simp [LaneRec.kept, LaneRec.standing, laneStateOf_ne_idle, hs]
  · split <;> rfl
  · split
    · exact id
    · exact fun _ => LaneRec.ok_of_not_idle (laneStateOf_ne_idle _ _)

theorem Deriving.leaveWaiting (l : Fin 4) (hl : L l) {w : World} (hw : P w) : P (w.leaveWaiting l) := by
  unfold World.leaveWaiting
  split
  · next hs =>
    refine h.setState l hl (h.derive l _ hl hw rfl rfl ?_)
    exact fun _ => LaneRec.ok_of_not_idle (by simp [hs])
  · exact hw

omit h in
theorem Working.cleanWaitersIf (h : Working P) (l : Fin 4) (c : Bool) {w : World} (hw : P w) :
    P (if c then w.cleanWaiters l else w) := by
  split <;> [exact h.cleanWaiters l hw; exact hw]

theorem Deriving.applyNotice (e : Env) (l : Fin 4) (hl : L l) (n : Notice) {w : World} (hw : P w) :
    P (World.applyNotice e w l n) := by
  unfold World.applyNotice
  extract_lets before w1 w2 w3 changed w4 w5
  have h1 : P w1 := Working.foldl _ (fun _ c hw => h.changeOnAir e l c hw) n.onAir hw
  have h2 : P w2 := by
    unfold w2
    clear_value before
    split
    · exact Working.foldl _ (fun _ c hw => h.changeNext e l _ c hw) _ h1
    · exact h1
  have h4 : P w4 := h.cleanWaitersIf l _ (h.deriveNext e l hl h2)
  refine h.askRecompute l ?_
  unfold w5
  split
  · exact h.leaveWaiting l hl h4
  · exact h4

end Deriving

/-! ### Takes -/

/-- Freeing an item takes its key out of the index and leaves the others. -/
theorem World.freeItem_item? (w : World) (k k' : Nat) : (w.freeItem k).item? k' = if k' = k then none else w.item? k' := by
  unfold World.freeItem
  split
  · next hnone => split <;> simp_all
  · next it hit =>
    have hfold : ∀ (els : List Element) (v : World),
        (els.foldl (fun w el => w.forgetRoll (it.refOf el)) v).store = v.store := by
      intro els
      induction els with
      | nil => intro v; rfl
      | cons el rest ih => exact fun v => ih _
    have hstore : (if (w.lane it.lane).cursor = some k then
        (it.elements.foldl (fun w el => w.forgetRoll (it.refOf el)) w).modLane it.lane
          (fun r => { r with cursor := above? (w.store.orders.get it.lane) k })
        else it.elements.foldl (fun w el => w.forgetRoll (it.refOf el)) w).store = w.store := by
      split <;> simp [hfold]
    simp only [World.item?, Store.item?, World.setStore_store, hstore, List.find?_filter]
    by_cases hk : k' = k
    · subst hk; simp
    · rw [if_neg hk]
      congr 1
      funext x
      by_cases hx : x.key = k' <;> simp [hx, hk]

section Sequencing
variable {L : Fin 4 → Prop} {P : World → Prop} (h : Sequencing L P)
include h

theorem Sequencing.deriving : Deriving L P :=
  { h with
    derive := fun l r hl hw hr _ hok => h.run l r hl hw (LaneRec.idle_iff_of_kept hr) hok
    states := fun f hw hf => h.items f hw (fun it => Item.content_of_record (hf it)) }

omit h in
/-- Freeing an item starts and stops no lane. -/
theorem World.freeItem_state (w : World) (k : Nat) (l : Fin 4) : ((w.freeItem k).lane l).state = (w.lane l).state := by
  unfold World.freeItem
  split
  · rfl
  · next it hit =>
    have hfold : (it.elements.foldl (fun w el => w.forgetRoll (it.refOf el)) w).lane l = w.lane l :=
      foldl_read (fun w => w.lane l) (by intros; rfl) _ _
    dsimp only
    split
    · simp only [World.setStore_lane, World.modLane_lane, hfold]; split <;> rfl
    · simp only [World.setStore_lane, hfold]

/-- What is done in a lane that is not IDLE leaves it so. -/
theorem Sequencing.and_started (l : Fin 4) : Sequencing L (fun w => P w ∧ (w.lane l).state ≠ .idle) :=
  { (h.deriving.and_started l).toWorking with
    run := fun l' r hl hw hi hok => by
      refine ⟨h.run l' r hl hw.1 hi hok, ?_⟩
      rw [World.setLane_lane]
      split
      · next heq => subst heq; exact fun hr => hw.2 (hi.1 hr)
      · exact hw.2
    items := fun f hw hf => ⟨h.items f hw.1 hf, hw.2⟩
    free := fun k hw hk => ⟨h.free k hw.1 hk, by rw [World.freeItem_state]; exact hw.2⟩
    order := fun l k it hl hw => h.order l k it hl hw.1 }

theorem Sequencing.modItem (k : Nat) (f : Item → Item) (hf : ∀ it, (f it).content = it.content) {w : World} (hw : P w) :
    P (w.modItem k f) :=
  h.items _ hw (fun it => by split <;> [exact hf it; rfl])

theorem Sequencing.freeItems (ks : List Nat) {w : World} (hw : P w)
    (hk : ∀ k ∈ ks, ∀ it, w.item? k = some it → L it.lane) : P (ks.foldl (fun w k => w.freeItem k) w) := by
  induction ks generalizing w with
  | nil => exact hw
  | cons k rest ih =>
    refine ih (h.free k hw (hk k (by simp))) (fun k' hk' it hit => ?_)
    rw [World.freeItem_item?] at hit
    split at hit
    · cases hit
    · exact hk k' (by simp [hk']) it hit

omit h in
theorem Store.item?_key {s : Store} {k : Nat} {it : Item} (hit : s.item? k = some it) : it.key = k := by
  simpa using List.find?_some hit

omit h in
/-- A DONE key of a lane's order is the key of an item that stands in the order. -/
theorem Store.mem_doneKeys {s : Store} {l : Fin 4} {k : Nat} (hk : k ∈ s.doneKeys l) : k ∈ s.orders.get l := by
  simp only [Store.doneKeys, Store.itemsOf, List.mem_map, List.mem_filter, List.mem_filterMap] at hk
  obtain ⟨it, ⟨⟨k', hk', hit⟩, -⟩, rfl⟩ := hk
  rwa [Store.item?_key hit]

theorem Sequencing.retain (l : Fin 4) (hl : L l) (n : Nat) {w : World} (hw : P w) : P (w.retain l n) :=
  h.freeItems _ hw (fun k hk it hit => h.order l k it hl hw (Store.mem_doneKeys (List.mem_of_mem_take hk)) hit)

theorem Sequencing.offAir (l : Fin 4) (hl : L l) {w : World} (hw : P w) :
    P (w.modLane l (fun r => { r with onAir := none })) :=
  h.run l _ hl hw Iff.rfl (fun hok hi => ⟨rfl, (hok hi).2⟩)

omit h in
theorem Working.sendDeferredIf (h : Working P) (e : Env) (l : Fin 4) (send : Bool) {w : World} (hw : P w) :
    P (if send then World.sendDeferred e w l else w) := by
  split <;> [exact h.sendDeferred e l hw; exact hw]

theorem Sequencing.leaveAir (e : Env) (l : Fin 4) (hl : L l) (send : Bool) {w : World} (hw : P w) :
    P (World.leaveAir e w l send) := by
  unfold World.leaveAir
  split
  · exact hw
  · next it hit =>
    extract_lets queue w1 w2 w3 w4 w5 w6
    have h1 : P w1 := by
      refine Working.foldl _ (fun v en hv => ?_) queue (h.modQueue l _ hw)
      exact h.modElem en.ref _ (fun _ => rfl) hv
    have h2 : P w2 := h.modLane l (LaneRec.dropItemCues it.ref) (fun _ => rfl)
      (h.modLane l (LaneRec.dropItemLoads it.ref) (fun _ => rfl) h1)
    have h4 : P w4 := h.offAir l hl (h.modItem it.key _ (Item.leaveAir_content e) (h.clearItemCues e it.ref true h2))
    have h6 : P w6 := h.sendDeferredIf e l send (h.releaseItem e l it.key h4)
    split
    · exact h.retain l hl _ h6
    · exact h6

/-- What an operation does in a lane that is not IDLE: the record of the lane may be any other that is not IDLE. -/
theorem Sequencing.runStarted (l : Fin 4) (hl : L l) (f : LaneRec → LaneRec) (hf : ∀ r, (f r).state = r.state) {w : World}
    (hs : (w.lane l).state ≠ .idle) (hw : P w) : P (w.modLane l f) :=
  h.run l _ hl hw (by rw [hf]) (fun _ => LaneRec.ok_of_not_idle (by rw [hf]; exact hs))

end Sequencing

section Takes
variable {L : Fin 4 → Prop} {P : World → Prop} (h : Sequencing L P) {l : Fin 4} (hl : L l) {w : World}
include h hl

theorem Sequencing.goOnAir (e : Env) (k planned : Nat) (hs : (w.lane l).state ≠ .idle) (hw : P w) :
    P (World.goOnAir e w l k planned) := by
  unfold World.goOnAir
  have h1 := h.modItem k (fun i => { i with
    state := .onAir, start := some { fs := e.now, label := e.ref.rate.label e.ref.t }, effPlanned := some planned,
    proposed := false }) (fun _ => rfl) hw
  have h2 := h.runStarted l hl (fun r => { r with onAir := some k, passCount := 0 }) (fun _ => rfl)
    (w := w.modItem k _) hs h1
  exact h.testCompleted e _ l (h.fillQueue e l _ _ h2)

theorem Sequencing.endTake (e : Env) (left : Bool) (hs : (w.lane l).state ≠ .idle) (hw : P w) :
    P (World.endTake e w l left) := by
  unfold World.endTake
  have hq := h.and_started l
  have h1 := hq.deriving.deriveNext e l hl ⟨hw, hs⟩
  obtain ⟨h2, hs2⟩ := hq.cleanWaitersIf l left h1
  exact h.askRecompute l (h.deriving.setState l hl (h.runStarted l hl _ (by intro; rfl) hs2 h2))

theorem Sequencing.take (e : Env) (hs : (w.lane l).state ≠ .idle) (hw : P w) : P (World.take e w l) := by
  unfold World.take
  have hq := h.and_started l
  split
  · exact hw
  · next it hit =>
    obtain ⟨h1, hs1⟩ := hq.leaveAir e l hl true ⟨hw, hs⟩
    have h2 := hq.runStarted l hl (fun r => { r with next := none, cursor := some it.key }) (fun _ => rfl) hs1 ⟨h1, hs1⟩
    have h3 := fun planned => hq.goOnAir hl e it.key planned h2.2 h2
    exact h.endTake hl e _ (h3 _).2 (h3 _).1

theorem Sequencing.fillingTake (e : Env) (hs : (w.lane l).state ≠ .idle) (hw : P w) : P (World.fillingTake e w l) := by
  unfold World.fillingTake
  have hq := h.and_started l
  split
  · exact hw
  · next it hit =>
    have h1 := hq.leaveAir e l hl false ⟨hw, hs⟩
    have h2 := hq.modItem it.key (fun i => { i with elements := i.elements.map Element.renew })
      (fun i => by simp [Item.content, Function.comp_def, Element.renew_renew]) h1
    have h3 := hq.sendDeferred e l (hq.goOnAir hl e it.key it.planned h2.2 h2)
    exact h.endTake hl e _ h3.2 h3.1

theorem Sequencing.evalAuto (e : Env) (hs : (w.lane l).state ≠ .idle) (hw : P w) : P (World.evalAuto e w l) := by
  unfold World.evalAuto
  split
  · exact hw
  · split
    · exact h.fillingTake hl e hs hw
    · split
      · exact hw
      · split
        · exact h.deriving.setState l hl (h.runStarted l hl _ (by intro; rfl) hs hw)
        · exact h.take hl e hs hw

theorem Sequencing.testAuto (e : Env) (hw : P w) : P (World.testAuto e w l) := by
  unfold World.testAuto
  split
  · next hc =>
    refine h.evalAuto hl e ?_ hw
    simp only [Bool.and_eq_true, decide_eq_true_eq] at hc
    simp [hc.1]
  · exact hw

theorem Sequencing.setOperator (hs : (w.lane l).state ≠ .idle) (hw : P w) : P (w.setOperator l) :=
  h.deriving.setState l hl (h.runStarted l hl _ (by intro; rfl) hs hw)

theorem Sequencing.setLevel (e : Env) (level : Nat) (entry : Bool) (hw : P w) : P (World.setLevel e w l level entry) := by
  unfold World.setLevel
  have h0 : P (w.modLane l (fun r => { r with actionLevel := level })) := h.run l _ hl hw Iff.rfl (fun hok hi => hok hi)
  dsimp only
  split
  · exact h0
  · next hs =>
    have hs0 : ((w.modLane l (fun r => { r with actionLevel := level })).lane l).state ≠ .idle := by simpa using hs
    split
    · exact h.deriving.setState l hl (h.runStarted l hl _ (by intro; rfl) hs0 h0)
    · have hq := h.and_started l
      have h1 := hq.deriving.setState l hl (hq.runStarted l hl (fun r => { r with action := false }) (fun _ => rfl) hs0 ⟨h0, hs0⟩)
      split
      · exact h.fillingTake hl e h1.2 h1.1
      · exact h1.1

theorem Sequencing.laneArrival (e : Env) (hw : P w) : P (World.laneArrival e w l) := by
  unfold World.laneArrival
  have h1 := h.cycleTest e l (h.fireArrival e l hw)
  dsimp only
  split
  · next hs =>
    simp only [decide_eq_true_eq] at hs
    split
    · exact h.evalAuto hl e (by simp [hs]) h1
    · exact h1
  · exact h.testAuto hl e h1

end Takes

end Sys2Proof.Machine
end

section
/-! What settling an event is made of (R72 to R74, R194 to R199), and what it leaves alone: `Settling` adds to the sequencers of all
four lanes the timing results, the judgements of the condition table, and the pulses. -/
namespace Sys2Proof.Machine

-- One proof is checked at a time: the tests above leave little memory for proofs side by side.
set_option Elab.async false

/-- The condition table without the instances that settling judges. -/
def Monitor.unjudged (m : Monitor) : Monitor :=
  { m with noNext := Tbl.fill 4 .clear, notReady := Tbl.fill 4 .clear, portFault := Tbl.fill 4 .clear,
           stationLost := Tbl.fill 4 .clear, refLost := .clear }

/-- `P` is kept by what a recompute and a lane's action level change. -/
structure Planning (P : World → Prop) : Prop extends Sequencing (fun _ => True) P where
  timing : ∀ {w} l t, P w → P (w.setTiming l t)

/-- `P` is kept by what the settling of an event changes. -/
structure Settling (P : World → Prop) : Prop extends Planning P where
  judged : ∀ {w} m, P w → m.unjudged = w.monitor.unjudged → P (w.setMonitor m)
  pulse : ∀ {w} (p : Pulse), P w → P { w with pulse := p }

theorem Store.mark_content (l : Fin 4) (plan : List Nat) (it : Item) :
    (if it.lane = l ∧ it.place = .order then { it with proposed := plan.contains it.key } else it).content = it.content := by
  split <;> rfl

section Planning
variable {P : World → Prop} (h : Planning P) (e : Env)
include h

theorem Planning.recompute (l : Fin 4) {w : World} (hw : P w) : P (World.recompute e w l) := by
  unfold World.recompute
  exact h.due l _ (h.watch e l (h.items _ (h.timing l _ hw) (Store.mark_content l _)))

theorem Planning.sendSafe (l : Fin 4) {w : World} (hw : P w) : P (World.sendSafe e w l) := by
  unfold World.sendSafe
  refine Working.foldl _ (fun w d hw => ?_) _ hw
  have h1 := h.resolve e d hw
  dsimp only
  split
  · exact h.submitSafe e _ h1
  · exact h1

theorem Planning.applyLevel (formed : Fin 4 → Nat) (l : Fin 4) {w : World} (hw : P w) : P (World.applyLevel e formed w l) := by
  unfold World.applyLevel
  extract_lets r n entry w1
  split
  · exact hw
  · have h1 : P w1 := h.setLevel (l := l) trivial e n entry hw
    split
    · exact h.sendSafe e l h1
    · exact h1

end Planning

section Settling
variable {P : World → Prop} (h : Settling P) (e : Env)
include h

theorem Settling.notice (k : Cond) (before after : Inst) {w : World} (hw : P w) : P (World.notice e k before after w) := by
  unfold World.notice
  split
  · exact h.pulse _ hw
  · exact hw

theorem Settling.judgeLane (l : Fin 4) {w : World} (hw : P w) : P (World.judgeLane e w l) := by
  unfold World.judgeLane
  exact h.notice e _ _ _ (h.notice e _ _ _ (h.notice e _ _ _ (h.notice e _ _ _ (h.due l _ (h.judged _ hw rfl)))))

theorem Settling.judge {w : World} (hw : P w) : P (World.judge e w) := by
  unfold World.judge
  exact Working.foldl _ (fun _ l hw => h.judgeLane e l hw) _ (h.notice e _ _ _ (h.judged _ hw rfl))

theorem Settling.settleRound {w : World} (hw : P w) : P (World.settleRound e w) := by
  unfold World.settleRound
  have h1 := Working.foldl (World.finishWaits e) (fun _ l hw => h.finishWaits e l hw) (places 4) hw
  have h2 := Working.foldl (fun w l => if (w.due.get l).recompute then World.recompute e w l else w)
    (fun _ l hw => by split <;> [exact h.recompute e l hw; exact hw]) (places 4) h1
  exact Working.foldl _ (fun _ l hw => h.applyLevel e _ l hw) (places 4) (h.judge e h2)

theorem Settling.settle {w : World} (hw : P w) : P (World.settle e w) := by
  unfold World.settle
  generalize 64 = n
  induction n generalizing w with
  | zero => exact h.settleRound e hw
  | succ n ih =>
    unfold World.settleRounds
    dsimp only
    split
    · exact ih (h.settleRound e hw)
    · exact h.settleRound e hw

end Settling

/-! ### Freeing an item -/

/-- What freeing an item of the index changes: last rolls, the cursor of its lane, and the store (R2, R8). -/
theorem World.freeItem_of_some {w : World} {k : Nat} {it : Item} (hit : w.item? k = some it) :
    ∃ rolls, w.freeItem k = { w with
      rolls
      lanes := if (w.lane it.lane).cursor = some k then
          w.lanes.set it.lane { w.lane it.lane with cursor := above? (w.store.orders.get it.lane) k } else w.lanes
      store :=
        { items := w.store.items.filter (fun x => decide (x.key ≠ k))
          freeItems := w.store.freeItems ++ [it.ref]
          freeElements := w.store.freeElements ++ it.elements.map (·.ref)
          orders := w.store.orders.set it.lane ((w.store.orders.get it.lane).filter (fun x => decide (x ≠ k)))
          standbys := if w.store.standbys.get it.lane = some k then w.store.standbys.set it.lane none
            else w.store.standbys } } := by
  have hforget : ∃ rolls, it.elements.foldl (fun w el => w.forgetRoll (it.refOf el)) w = { w with rolls } :=
    Working.foldl (P := fun v => ∃ rolls, v = { w with rolls }) _ (fun _ _ ⟨_, hv⟩ => by
      subst hv; exact ⟨_, rfl⟩) _ ⟨w.rolls, rfl⟩
  obtain ⟨rolls, hrolls⟩ := hforget
  refine ⟨rolls, ?_⟩
  unfold World.freeItem
  rw [hit]
  dsimp only
  rw [hrolls]
  split
  · next hc => rfl
  · next hc => rfl

theorem World.freeItem_of_none {w : World} {k : Nat} (hit : w.item? k = none) : w.freeItem k = w := by
  unfold World.freeItem
  rw [hit]

/-- A property that freeing an item of the index keeps is kept where the key names none. -/
theorem World.freeItem_induction {P : World → Prop} {w : World} {k : Nat} (hw : P w)
    (hf : ∀ it, w.item? k = some it → P (w.freeItem k)) : P (w.freeItem k) := by
  cases hit : w.item? k with
  | none => rwa [World.freeItem_of_none hit]
  | some it => exact hf it hit

theorem Store.contents_map {s : Store} {f : Item → Item} (hf : ∀ it, (f it).content = it.content) :
    Store.contents { s with items := s.items.map f } = s.contents := by
  simp [Store.contents, Function.comp_def, hf]

/-! ### What settling leaves alone -/

/-- What the settling of an event leaves of a world. -/
structure World.SettlesTo (w w' : World) : Prop where
  ports : ∀ p, (w'.ports.get p).standing = (w.ports.get p).standing
  stations : ∀ st, (w'.stations.get st).standing = (w.stations.get st).standing
  services : ∀ d, (w'.map.get d).service = (w.map.get d).service
  idle : ∀ l, (w'.lane l).state = .idle ↔ (w.lane l).state = .idle
  contents : w'.store.contents.Sublist w.store.contents
  sdo : w'.out.sdo = w.out.sdo
  monitor : w'.monitor.unjudged = w.monitor.unjudged

theorem World.SettlesTo.refl (w : World) : w.SettlesTo w :=
  ⟨fun _ => rfl, fun _ => rfl, fun _ => rfl, fun _ => Iff.rfl, List.Sublist.refl _, rfl, rfl⟩

/-- A table with one place written over by a thing that reads the same reads the same everywhere. -/
theorem Tbl.read_set {n : Nat} {α β : Type} (g : α → β) (t : Tbl n α) {i : Fin n} {a : α} (ha : g a = g (t.get i)) (j : Fin n) :
    g ((t.set i a).get j) = g (t.get j) := by
  rw [Tbl.get_set]
  split
  · next hij => rw [ha, hij]
  · rfl

theorem World.setLane_idle_iff {w : World} {l : Fin 4} {r : LaneRec} (hr : r.state = .idle ↔ (w.lane l).state = .idle)
    (l' : Fin 4) : ((w.setLane l r).lane l').state = .idle ↔ (w.lane l').state = .idle := by
  rw [World.setLane_lane]
  split
  · next hl => rw [hr, hl]
  · rfl

theorem settling_settlesTo (v : World) : Settling v.SettlesTo where
  lane _ _ h hr := { h with idle := fun l' => (World.setLane_idle_iff (LaneRec.idle_iff_of_standing hr) l').trans (h.idle l') }
  elems _ h hf hr :=
    { h with
      contents := by
        rw [World.setStore_store, Store.contents_map fun it => Item.content_of_elements it (hf it) (hr it)]
        exact h.contents }
  port p r h hr _ := { h with ports := fun p' => (Tbl.read_set Port.standing _ hr p').trans (h.ports p') }
  station st r h hr := { h with stations := fun st' => (Tbl.read_set Station.standing _ hr st').trans (h.stations st') }
  entry d m h hm _ := { h with services := fun d' => (Tbl.read_set MapEntry.service _ hm d').trans (h.services d') }
  rolls _ h := { h with }
  due _ _ h := { h with }
  loads _ h := { h with }
  out _ h ho := { h with sdo := ho.trans h.sdo }
  run _ _ _ h hi _ := { h with idle := fun l' => (World.setLane_idle_iff hi l').trans (h.idle l') }
  items _ h hf :=
    { h with
      contents := by
        rw [World.setStore_store, Store.contents_map hf]
        exact h.contents }
  free {w} k h _ := World.freeItem_induction h fun it hit => by
    have hstate := World.freeItem_state w k
    obtain ⟨rolls, hfree⟩ := World.freeItem_of_some hit
    rw [hfree] at hstate ⊢
    exact { h with
      idle := fun l => (by rw [hstate l] : _ ↔ _).trans (h.idle l)
      contents := ((List.filter_sublist).map _).trans h.contents }
  order _ _ _ _ _ _ _ := trivial
  timing _ _ h := { h with }
  judged _ h hm := { h with monitor := hm.trans h.monitor }
  pulse _ h := { h with }

/-- Settles O55: settling is made of changes that each leave all of this alone. -/
theorem settlingKeepsWhatItDoesNotOwn : Obligations.SettlingKeepsWhatItDoesNotOwn := by
  intro e w w'
  obtain ⟨hports, hstations, hservices, hidle, hcontents, hsdo, hmonitor⟩ :=
    (settling_settlesTo w).settle e (World.SettlesTo.refl w)
  have field : ∀ {α : Type} (g : Monitor → α), g w'.monitor.unjudged = g w.monitor.unjudged := fun g => congrArg g hmonitor
  exact ⟨hports, hstations, hservices, hidle, hcontents, hsdo, field Monitor.gateTimeout, field Monitor.clockSlip,
    field Monitor.rxOverrun, field Monitor.stationCall, field Monitor.stationHold, field Monitor.overI,
    field Monitor.underI, field Monitor.overCount, field Monitor.underCount⟩

end Sys2Proof.Machine
end

section
/-! A store in good order (R1 to R8): what finds the items of a store that is, and the changes of the rundown that keep it so. -/
namespace Sys2Proof.Machine

-- One proof is checked at a time: the tests above leave little memory for proofs side by side.
set_option Elab.async false

/-- The store is whole: its pools and keys in good order, and every item in its one place (R1, R4 to R7). -/
def Store.Whole (s : Store) : Prop := s.Ok ∧ s.Placed

/-- Two items stand on the same records under the same key, in the same place. -/
def Item.SameSpot (a b : Item) : Prop :=
  a.key = b.key ∧ a.ref = b.ref ∧ a.lane = b.lane ∧ a.place = b.place ∧
    a.elements.map (·.ref) = b.elements.map (·.ref)

theorem Item.SameSpot.refl (a : Item) : a.SameSpot a := ⟨rfl, rfl, rfl, rfl, rfl⟩

theorem Item.sameSpot_of_content {a b : Item} (h : a.content = b.content) : a.SameSpot b := by
  have field : ∀ {α : Type} (g : Item → α), g a.content = g b.content := fun g => congrArg g h
  refine ⟨field Item.key, field Item.ref, field Item.lane, field Item.place, ?_⟩
  have hr : (a.elements.map Element.renew).map (·.ref) = (b.elements.map Element.renew).map (·.ref) :=
    field (fun it => it.elements.map (·.ref))
  simpa [Function.comp_def, Element.renew, Element.create] using hr

/-! ### Finding items -/

section Found
variable {s : Store} (hs : s.Ok)
include hs

/-- An item of a store in good order is found under its key. -/
theorem Store.Ok.item?_eq {it : Item} (hit : it ∈ s.items) : s.item? it.key = some it := by
  obtain ⟨hkeys, -⟩ := hs
  rw [Store.item?]
  generalize s.items = items at hkeys hit
  induction items with
  | nil => simp at hit
  | cons x rest ih =>
    rw [List.map_cons, List.nodup_cons] at hkeys
    rw [List.find?_cons]
    rcases List.mem_cons.1 hit with rfl | hmem
    · simp
    · have hne : x.key ≠ it.key := fun he => hkeys.1 (he ▸ List.mem_map_of_mem hmem)
      simpa [hne] using ih hkeys.2 hmem

theorem Store.Ok.item?_iff {k : Nat} {it : Item} : s.item? k = some it ↔ it ∈ s.items ∧ it.key = k := by
  constructor
  · exact fun hit => ⟨List.mem_of_find?_eq_some hit, Store.item?_key hit⟩
  · rintro ⟨hit, rfl⟩
    exact hs.item?_eq hit

theorem Store.Ok.eq_of_key {a b : Item} (ha : a ∈ s.items) (hb : b ∈ s.items) (hk : a.key = b.key) : a = b := by
  have := hs.item?_eq ha
  rw [hk, hs.item?_eq hb] at this
  exact (Option.some.inj this).symm

/-- The items are the one found under a key and the others. -/
theorem Store.Ok.perm_cons_filter {k : Nat} {it : Item} (hit : s.item? k = some it) :
    s.items.Perm (it :: s.items.filter (fun x => decide (x.key ≠ k))) := by
  obtain ⟨hmem, rfl⟩ := hs.item?_iff.1 hit
  obtain ⟨before, after, hitems⟩ := List.append_of_mem hmem
  have hkeys := hs.1
  rw [hitems, List.map_append, List.map_cons] at hkeys
  have hne : ∀ x ∈ before ++ after, x.key ≠ it.key := by
    have hnd := (List.perm_middle.nodup_iff.1 hkeys)
    rw [← List.map_append, List.nodup_cons] at hnd
    exact fun x hx he => hnd.1 (he ▸ List.mem_map_of_mem hx)
  have hfilter : s.items.filter (fun x => decide (x.key ≠ it.key)) = before ++ after := by
    rw [hitems, List.filter_append, List.filter_cons_of_neg (by simp), ← List.filter_append]
    exact List.filter_eq_self.2 (fun x hx => by simpa using hne x hx)
  rw [hfilter, hitems]
  exact List.perm_middle

end Found

/-! ### Changes that keep the store whole -/

/-- Items rewritten on their records, under their keys, leave the pools and the keys in good order. -/
theorem Store.Ok.map {s : Store} (h : s.Ok) {f : Item → Item}
    (hf : ∀ it, (f it).key = it.key ∧ (f it).ref = it.ref ∧ (f it).elements.map (·.ref) = it.elements.map (·.ref)) :
    Store.Ok { s with items := s.items.map f } := by
  obtain ⟨hkeys, hitems, helements⟩ := h
  have hmap : ∀ {β : Type} (g : Item → β), (∀ it, g (f it) = g it) → (s.items.map f).map g = s.items.map g :=
    fun g hg => by simp [hg]
  refine ⟨?_, ?_, ?_⟩
  · rwa [hmap _ fun it => (hf it).1]
  · rwa [hmap _ fun it => (hf it).2.1]
  · rwa [List.flatMap_map, List.flatMap_congr fun it _ => (hf it).2.2]

/-- Items rewritten where they stand leave the store whole. -/
theorem Store.Whole.map {s : Store} (h : s.Whole) {f : Item → Item} (hf : ∀ it, (f it).SameSpot it) :
    Store.Whole { s with items := s.items.map f } := by
  obtain ⟨hok, hnodup, horders, hstandbys⟩ := h
  have hex : ∀ (l : Fin 4) (k : Nat) (pl : Place), (∃ it ∈ s.items.map f, it.key = k ∧ it.lane = l ∧ it.place = pl) ↔
      ∃ it ∈ s.items, it.key = k ∧ it.lane = l ∧ it.place = pl := by
    intro l k pl
    simp only [List.mem_map, exists_exists_and_eq_and]
    exact exists_congr fun it => by rw [(hf it).1, (hf it).2.2.1, (hf it).2.2.2.1]
  exact ⟨hok.map fun it => ⟨(hf it).1, (hf it).2.1, (hf it).2.2.2.2⟩, hnodup,
    fun l k => (horders l k).trans (hex l k _).symm, fun l k => (hstandbys l k).trans (hex l k _).symm⟩

/-- A store with an item's key out of the index and its place, and its records back in the pools. -/
def Store.freed (s : Store) (it : Item) : Store :=
  { items := s.items.filter (fun x => decide (x.key ≠ it.key))
    freeItems := s.freeItems ++ [it.ref]
    freeElements := s.freeElements ++ it.elements.map (·.ref)
    orders := s.orders.set it.lane ((s.orders.get it.lane).filter (fun x => decide (x ≠ it.key)))
    standbys := if s.standbys.get it.lane = some it.key then s.standbys.set it.lane none else s.standbys }

theorem Store.Whole.freed {s : Store} (h : s.Whole) {it : Item} (hit : it ∈ s.items) : (s.freed it).Whole := by
  obtain ⟨hok, hnodup, horders, hstandbys⟩ := h
  have hperm := hok.perm_cons_filter (hok.item?_eq hit)
  have hother : ∀ {l : Fin 4} {k : Nat} {pl : Place}, (∃ x ∈ (s.freed it).items, x.key = k ∧ x.lane = l ∧ x.place = pl) ↔
      k ≠ it.key ∧ ∃ x ∈ s.items, x.key = k ∧ x.lane = l ∧ x.place = pl := by
    intro l k pl
    simp only [Store.freed, List.mem_filter, decide_eq_true_eq]
    constructor
    · rintro ⟨x, ⟨hx, hne⟩, rfl, hrest⟩
      exact ⟨hne, x, hx, rfl, hrest⟩
    · rintro ⟨hne, x, hx, rfl, hrest⟩
      exact ⟨x, ⟨hx, hne⟩, rfl, hrest⟩
  refine ⟨⟨?_, ?_, ?_⟩, ?_, ?_, ?_⟩
  · exact (List.filter_sublist.map _).nodup hok.1
  · refine (List.Perm.map _ ?_).trans hok.2.1
    have h1 : (s.items.map (·.ref) ++ s.freeItems).Perm
        (it.ref :: ((s.freed it).items.map (·.ref) ++ s.freeItems)) := (hperm.map _).append_right _
    refine List.Perm.trans ?_ h1.symm
    rw [Store.freed, ← List.append_assoc]
    exact List.perm_append_singleton _ _
  · refine (List.Perm.map _ ?_).trans hok.2.2
    have h1 : (s.items.flatMap (fun x => x.elements.map (·.ref)) ++ s.freeElements).Perm
        (it.elements.map (·.ref) ++ (s.freed it).items.flatMap (fun x => x.elements.map (·.ref)) ++ s.freeElements) :=
      (hperm.flatMap_right _).append_right _
    refine List.Perm.trans ?_ h1.symm
    rw [Store.freed, ← List.append_assoc, List.append_assoc (it.elements.map _)]
    exact List.perm_append_comm
  · intro l
    simp only [Store.freed, Tbl.get_set]
    split
    · exact (hnodup _).filter _
    · exact hnodup l
  · intro l k
    rw [hother, ← horders]
    simp only [Store.freed, Tbl.get_set]
    split
    · next hl => subst hl; simp [and_comm]
    · next hl =>
      refine ⟨fun hk => ⟨?_, hk⟩, And.right⟩
      rintro rfl
      obtain ⟨x, hx, hkey, hlane, -⟩ := (horders l _).1 hk
      exact hl (by rw [← hok.eq_of_key hx hit hkey, hlane])
  · intro l k
    rw [hother, ← hstandbys]
    have hne : s.standbys.get l = some k → l ≠ it.lane → k ≠ it.key := by
      rintro hk hl rfl
      obtain ⟨x, hx, hkey, hlane, -⟩ := (hstandbys l _).1 hk
      exact hl (by rw [← hok.eq_of_key hx hit hkey, hlane])
    simp only [Store.freed]
    split
    · next hst =>
      rw [Tbl.get_set]
      split
      · next hl => subst hl; simp [hst]; exact Ne.symm
      · next hl => exact ⟨fun hk => ⟨hne hk (Ne.symm hl), hk⟩, And.right⟩
    · next hst =>
      refine ⟨fun hk => ⟨?_, hk⟩, And.right⟩
      rintro rfl
      by_cases hl : l = it.lane
      · subst hl; exact hst hk
      · exact hne hk hl rfl

/-- What freeing an item of the index changes, with the store's part by name. -/
theorem World.freeItem_eq_freed {w : World} {k : Nat} {it : Item} (hit : w.item? k = some it) :
    ∃ rolls lanes, w.freeItem k = { w with rolls, lanes, store := w.store.freed it } ∧
      (lanes = w.lanes ∨ lanes = w.lanes.set it.lane
        { w.lane it.lane with cursor := above? (w.store.orders.get it.lane) k }) := by
  obtain ⟨rolls, hfree⟩ := World.freeItem_of_some hit
  obtain rfl : it.key = k := Store.item?_key hit
  refine ⟨rolls, _, hfree, ?_⟩
  split
  · exact .inr rfl
  · exact .inl rfl

end Sys2Proof.Machine
end

section
/-! A property of the world that looks at the store, the lanes, the ports and the map, and is kept by every change that keeps these
records in good order, is kept by everything the blocks do: `Orderly`. The invariants of the part are four such properties. -/
namespace Sys2Proof.Machine

-- One proof is checked at a time: the tests above leave little memory for proofs side by side.
set_option Elab.async false

/-- `P` is kept by each change of a record that leaves it in good order if it was, and of the rest of the world looks at CLOCK_SLIP
alone, which only the Reference Unit and CONDREAD move. -/
structure Arriving (P : World → Prop) : Prop where
  store : ∀ {w} s, P w → (w.store.Whole → s.Whole) → P (w.setStore s)
  lane : ∀ {w} l r, P w → ((w.lane l).Ok → r.Ok) → P (w.setLane l r)
  port : ∀ {w} p r, P w → ((w.ports.get p).Ok → r.Ok) → P (w.setPort p r)
  entry : ∀ {w} d m, P w → ((w.map.get d).Ok → m.Ok) → P (w.setEntry d m)
  others : ∀ {w w' : World}, P w → w'.store = w.store → w'.lanes = w.lanes → w'.ports = w.ports → w'.map = w.map →
    w'.monitor.clockSlip = w.monitor.clockSlip → P w'

/-- `P` is kept by each change of a record that leaves it in good order if it was, and does not look at the rest of the world. -/
structure Orderly (P : World → Prop) : Prop extends Arriving P where
  slip : ∀ {w} i, P w → P (w.setMonitor { w.monitor with clockSlip := i })

theorem Orderly.rest {P : World → Prop} (h : Orderly P) {w w' : World} (hw : P w) (hs : w'.store = w.store)
    (hl : w'.lanes = w.lanes) (hp : w'.ports = w.ports) (hm : w'.map = w.map) : P w' :=
  h.others (h.slip w'.monitor.clockSlip hw) hs hl hp hm rfl

variable {P : World → Prop} (h : Arriving P)
include h

theorem Arriving.settling : Settling P where
  lane l r hw hr := h.lane l r hw (LaneRec.ok_of_standing hr)
  elems f hw hf hr := h.store _ hw fun hs =>
    hs.map fun it => Item.sameSpot_of_content (Item.content_of_elements it (hf it) (hr it))
  port p r hw _ hok := h.port p r hw hok
  station st r hw _ := h.others hw rfl rfl rfl rfl rfl
  entry d m hw _ hok := h.entry d m hw hok
  rolls r hw := h.others hw rfl rfl rfl rfl rfl
  due l d hw := h.others hw rfl rfl rfl rfl rfl
  loads n hw := h.others hw rfl rfl rfl rfl rfl
  out o hw _ := h.others hw rfl rfl rfl rfl rfl
  run l r _ hw _ hok := h.lane l r hw hok
  items f hw hf := h.store _ hw fun hs => hs.map fun it => Item.sameSpot_of_content (hf it)
  free {w} k hw _ := World.freeItem_induction hw fun it hit => by
    obtain ⟨rolls, lanes, hfree, hlanes⟩ := World.freeItem_eq_freed hit
    have h1 := h.store (w.store.freed it) hw fun hs => hs.freed (List.mem_of_find?_eq_some hit)
    rw [hfree]
    rcases hlanes with rfl | rfl
    · exact h.others h1 rfl rfl rfl rfl rfl
    · have h2 := h.lane it.lane { w.lane it.lane with cursor := above? (w.store.orders.get it.lane) k } h1 (fun hok => hok)
      exact h.others h2 rfl rfl rfl rfl rfl
  order _ _ _ _ _ _ _ := trivial
  timing l t hw := h.others hw rfl rfl rfl rfl rfl
  judged m hw hm := h.others hw rfl rfl rfl rfl (congrArg Monitor.clockSlip hm :)
  pulse p hw := h.others hw rfl rfl rfl rfl rfl

end Sys2Proof.Machine
end

section
/-! Ports in good order (R159, R161): what their health, their queues and their tests leave of one. -/
namespace Sys2Proof.Machine

-- One proof is checked at a time: the tests above leave little memory for proofs side by side.
set_option Elab.async false

theorem Port.Ok.fault {p : Port} (h : p.Ok) (now : Fc) : (p.fault now).Ok := by
  obtain ⟨-, hpriority, hwindow, hreceived, hseqs, -, hprobe, hfaulted, hdown, -⟩ := h
  refine ⟨by simp [Port.fault], ?_, hwindow, hreceived, hseqs, by simp [Port.fault], by simp [Port.fault], fun _ => ?_,
    by simp [Port.fault], by simp [Port.fault]⟩
  · exact (List.length_filter_le _ _).trans hpriority
  · show p.priority.filter _ = [] ∨ p.priority.filter _ = _
    cases hs : p.state with
    | down => simp [(hdown hs).1]
    | inService =>
      left
      rw [List.filter_eq_nil_iff]
      rintro m hm hmp
      obtain rfl : m = .probe := by simpa using hmp
      exact hprobe hs hm
    | faulted => rcases hfaulted hs with hp | hp <;> simp [hp]

theorem Port.Ok.recover {p : Port} (h : p.Ok) : p.recover.Ok := by
  obtain ⟨hfifos, hpriority, hwindow, hreceived, hseqs, -, -, -, -, -⟩ := h
  exact ⟨hfifos, (List.length_filter_le _ _).trans hpriority, hwindow, hreceived, hseqs, by simp [Port.recover],
    by simp [Port.recover], by simp [Port.recover], by simp [Port.recover], by simp [Port.recover]⟩

theorem Port.Ok.disable {p : Port} : p.disable.Ok := by
  refine ⟨?_, ?_, ?_, ?_, ?_, ?_, ?_, ?_, ?_, ?_⟩ <;> simp [Port.disable]

theorem Port.Ok.enable {p : Port} (h : p.Ok) (hs : p.state = .down) : p.enable.Ok := by
  obtain ⟨hfifos, hpriority, hwindow, hreceived, hseqs, -, -, -, hdown, -⟩ := h
  exact ⟨hfifos, hpriority, hwindow, hreceived, hseqs, by simp [Port.enable], by simp [Port.enable, (hdown hs).1],
    by simp [Port.enable], by simp [Port.enable], by simp [Port.enable]⟩

theorem Port.reset_ok : Port.reset.Ok := by
  refine ⟨?_, ?_, ?_, ?_, ?_, ?_, ?_, ?_, ?_, ?_⟩ <;> simp [Port.reset]

theorem Port.warm_ok (p : Port) : p.warm.Ok := by
  have hs : p.warm.state ≠ .faulted := by
    unfold Port.warm
    dsimp only
    split <;> simp
  refine ⟨?_, ?_, ?_, ?_, ?_, ?_, ?_, fun hf => absurd hf hs, ?_, ⟨?_, fun hf => absurd hf hs⟩⟩ <;> simp [Port.warm, Port.reset]

/-- The health counts and the tests due are no part of a port's good order. -/
theorem Port.Ok.of_eq {p q : Port} (h : p.Ok) (h1 : q.state = p.state) (h2 : q.fifos = p.fifos) (h3 : q.priority = p.priority)
    (h4 : q.window = p.window) (h5 : q.received = p.received) (h6 : q.probeStart.isSome = p.probeStart.isSome) : q.Ok := by
  unfold Port.Ok
  rw [h1, h2, h3, h4, h5, h6]
  exact h

/-- What counting a completion leaves of a port: all but its health counts. -/
theorem Port.count_eq (probe : Bool) (o : MsgOutcome) (p : Port) :
    ∃ failures probeAcks, p.count probe o = { p with failures, probeAcks } := by
  unfold Port.count
  split <;> [skip; skip; skip; split; skip; split; skip] <;> exact ⟨_, _, rfl⟩

theorem Port.Ok.count {p : Port} (h : p.Ok) (probe : Bool) (o : MsgOutcome) : (p.count probe o).Ok := by
  obtain ⟨failures, probeAcks, hc⟩ := p.count_eq probe o
  rw [hc]
  exact h.of_eq rfl rfl rfl rfl rfl rfl

theorem Port.Ok.filterWindow {p : Port} (h : p.Ok) (f : WinRec → Bool) : Port.Ok { p with window := p.window.filter f } := by
  obtain ⟨hfifos, hpriority, hwindow, hreceived, hseqs, hlanes, hprobe, hfaulted, hdown, hstart⟩ := h
  exact ⟨hfifos, hpriority, (List.length_filter_le _ _).trans hwindow, hreceived, (List.filter_sublist.map _).nodup hseqs, hlanes,
    hprobe, hfaulted, fun hs => by simp [hdown hs], hstart⟩

theorem Port.Ok.popReceived {p : Port} (h : p.Ok) : Port.Ok { p with received := p.received.tail } := by
  obtain ⟨hfifos, hpriority, hwindow, hreceived, hseqs, hlanes, hprobe, hfaulted, hdown, hstart⟩ := h
  exact ⟨hfifos, hpriority, hwindow, by simp; omega, hseqs, hlanes, hprobe, hfaulted, fun hs => by simp [hdown hs], hstart⟩

theorem Port.Ok.pushReceived {p : Port} (h : p.Ok) (hs : p.state ≠ .down) (hlen : p.received.length < 4) (m : RxMsg) :
    Port.Ok { p with received := p.received ++ [m] } := by
  obtain ⟨hfifos, hpriority, hwindow, hreceived, hseqs, hlanes, hprobe, hfaulted, hdown, hstart⟩ := h
  exact ⟨hfifos, hpriority, hwindow, by simp; omega, hseqs, hlanes, hprobe, hfaulted, fun hd => absurd hd hs, hstart⟩

/-- A FAULTED port sends itself at most one PROBE (R169). -/
theorem Port.Ok.probed {p : Port} (h : p.Ok) (hs : p.state = .faulted) (now : Fc) :
    Port.Ok { p with probeStart := some now
                     priority := if p.priority.contains .probe then p.priority else p.priority ++ [.probe] } := by
  obtain ⟨hfifos, hpriority, hwindow, hreceived, hseqs, hlanes, hprobe, hfaulted, hdown, hstart⟩ := h
  have hp : (if p.priority.contains .probe then p.priority else p.priority ++ [.probe]) = [CueMsg.probe] := by
    rcases hfaulted hs with hp | hp <;> simp [hp]
  simp only [hp]
  exact ⟨hfifos, by simp, hwindow, hreceived, hseqs, hlanes, by simp [hs], by simp, by simp [hs], by simp [hs]⟩

end Sys2Proof.Machine
end

section
/-! What an orderly property is kept by: the sequencer in any lane, answers and ports, the Timing Engine and the Monitor, frame
arrivals, and what the links and the panel bring. -/
namespace Sys2Proof.Machine

-- One proof is checked at a time: the tests above leave little memory for proofs side by side.
set_option Elab.async false

variable {P : World → Prop} (h : Arriving P)
include h

theorem Arriving.sequencing : Sequencing (fun _ => True) P := h.settling.toSequencing

theorem Arriving.modLane (l : Fin 4) (f : LaneRec → LaneRec) (hf : ∀ r, r.Ok → (f r).Ok) {w : World} (hw : P w) :
    P (w.modLane l f) := h.lane l _ hw (hf _)

theorem Arriving.modPort (p : Fin 8) (f : Port → Port) (hf : ∀ r, r.Ok → (f r).Ok) {w : World} (hw : P w) :
    P (w.modPort p f) := h.port p _ hw (hf _)

theorem Arriving.modStation (st : Fin 6) (f : Station → Station) {w : World} (hw : P w) : P (w.modStation st f) :=
  h.others hw rfl rfl rfl rfl rfl

theorem Arriving.setMonitor (m : Monitor) {w : World} (hw : P w) (hm : m.clockSlip = w.monitor.clockSlip) : P (w.setMonitor m) :=
  h.others hw rfl rfl rfl rfl hm

/-! ### Answers and ports (R99, R132, R133, R166 to R169) -/

omit h in
theorem MsgOutcome.load_renew (o : MsgOutcome) (el : Element) : (o.load el).renew = el.renew := by induction o <;> rfl

omit h in
theorem MsgOutcome.complete_renew (o : MsgOutcome) (el : Element) : (o.complete el).renew = el.renew := by induction o <;> rfl

omit h in
/-- An answer is the blocks' working (R99, R132). -/
theorem Working.answer (h : Working P) (e : Env) (msg : CueMsg) (owner : Option Owner) (o : MsgOutcome) {w : World} (hw : P w) :
    P (World.answer e w msg owner o) := by
  have hload : ∀ ow, P (w.answerLoad ow o) := by
    intro ow
    unfold World.answerLoad
    split
    · exact h.modElem _ _ o.load_renew (h.dropLoad _ _ hw)
    · exact hw
  have hfired : ∀ ow, P (World.answerFired e w ow o) := by
    intro ow
    unfold World.answerFired
    split
    · exact hw
    · split
      · have h1 := h.modElem ow.ref _ o.complete_renew hw
        dsimp only
        split
        · exact h.cycleTest e _ h1
        · exact h1
      · exact hw
  unfold World.answer
  split
  · exact hw
  · split
    · exact hload _
    · exact hfired _

omit h in
theorem Working.failMessages (h : Working P) (e : Env) (q : List Queued) {w : World} (hw : P w) :
    P (World.failMessages e w q) :=
  Working.foldl _ (fun _ _ hw => h.answer e _ _ _ hw) _ hw

theorem Arriving.enterFaulted (e : Env) (p : Fin 8) {w : World} (hw : P w) : P (World.enterFaulted e w p) := by
  have hworking := h.settling.toWorking
  have h1 := h.modPort p (Port.fault e.now) (fun _ hok => hok.fault e.now) hw
  refine hworking.failMessages e _ (Working.foldl _ (fun v d hv => ?_) (places 64) h1)
  split
  · exact hworking.trySwitch e d hv
  · exact hv

theorem Arriving.completeRecord (e : Env) (p : Fin 8) (o : MsgOutcome) (rc : WinRec) {w : World} (hw : P w) :
    P (World.completeRecord e p o w rc) := by
  have h1 := h.modPort p (fun r => { r with window := r.window.filter (fun x => decide (x.seq ≠ rc.seq)) })
    (fun _ hok => hok.filterWindow _) hw
  have h3 := h.modPort p (Port.count (decide (rc.msg = .probe)) o) (fun _ hok => hok.count _ _)
    (h.settling.toWorking.answer e rc.msg rc.owner o h1)
  unfold World.completeRecord
  dsimp only
  split
  · exact h.enterFaulted e p h3
  · split
    · exact h.modPort p Port.recover (fun _ hok => hok.recover) h3
    · exact h3

theorem Arriving.timeoutTest (e : Env) (p : Fin 8) {w : World} (hw : P w) : P (World.timeoutTest e w p) := by
  unfold World.timeoutTest
  split
  · exact hw
  · have h0 := h.modPort p (fun r => { r with ackTick := none }) (fun _ hok => hok.of_eq rfl rfl rfl rfl rfl rfl) hw
    dsimp only
    split
    · exact h0
    · exact h.settling.arbiter e p (Working.foldl _ (fun _ rc hv => h.completeRecord e p .timeout rc hv) _ h0)

theorem Arriving.probeTest (e : Env) (p : Fin 8) {w : World} (hw : P w) : P (World.probeTest e w p) := by
  unfold World.probeTest
  have hok : (w.ports.get p).Ok → Port.Ok { w.ports.get p with probeTick := none } := fun hok => hok.of_eq rfl rfl rfl rfl rfl rfl
  split
  · exact hw
  · dsimp only
    split
    · next hs _ =>
      split
      · exact h.settling.arbiter e p (h.port p _ hw fun hp => (hok hp).probed hs e.now)
      · exact h.port p _ hw hok
    · exact h.port p _ hw hok

theorem Arriving.popReceived (p : Fin 8) {w : World} (hw : P w) : P (w.popReceived p) :=
  h.modPort p _ (fun _ hok => hok.popReceived) hw

theorem Arriving.takeAnswer (e : Env) (p : Fin 8) (rc : WinRec) (o : MsgOutcome) {w : World} (hw : P w) :
    P (World.takeAnswer e w p rc o) :=
  h.settling.arbiter e p (h.completeRecord e p o rc (h.popReceived p hw))

theorem Arriving.endNotice (e : Env) (t : Target) {w : World} (hw : P w) : P (World.endNotice e w t) := by
  unfold World.endNotice
  split
  · exact hw
  · next ow _ =>
    split
    · exact hw
    · split
      · extract_lets w1 isEnd w2
        have h1 : P w1 := h.settling.modElem ow.ref _ (fun _ => rfl) hw
        have h2 : P w2 := by
          unfold w2
          split
          · exact h.sequencing.testAuto trivial e h1
          · exact h1
        split
        · exact h.settling.cycleTest e _ h2
        · exact h2
      · exact hw

theorem Arriving.receive (e : Env) (p : Fin 8) (bytes : List Byte) {w : World} (hw : P w) : P (World.receive e w p bytes) := by
  unfold World.receive
  split
  · exact hw
  · dsimp only
    split
    · exact hw
    · next hs =>
      split
      · next hlen => exact h.port p _ hw fun hok => hok.pushReceived hs hlen _
      · exact h.settling.notice e _ _ _ (h.setMonitor _ hw rfl)

/-! ### The Timing Engine and the Monitor (R87, R192) -/

omit h in
/-- An item set DROPPED stands where it stood. -/
theorem Store.Whole.drop {s : Store} (hs : s.Whole) (plan : List Nat) : (s.drop plan).Whole :=
  hs.map fun it => by split <;> exact Item.SameSpot.refl _

theorem Arriving.carryOut (e : Env) (l : Fin 4) {w : World} (hw : P w) : P (World.carryOut e w l) := by
  unfold World.carryOut
  have h1 := h.settling.recompute e l hw
  dsimp only
  split
  · exact h.sequencing.deriving.applyNotice e l trivial _ (h.store _ h1 fun hs => hs.drop _)
  · exact h1

theorem Arriving.evalLane (e : Env) (l : Fin 4) {w : World} (hw : P w) : P (World.evalLane e w l) := by
  unfold World.evalLane
  split
  · exact hw
  · dsimp only
    split
    · exact h.carryOut e l (h.settling.notice e _ _ _ (h.settling.notice e _ _ _ (h.setMonitor _ hw rfl)))
    · exact h.settling.notice e _ _ _ (h.settling.notice e _ _ _ (h.setMonitor _ hw rfl))

/-! ### What a frame arrival makes due (R104, R113, R178) -/

theorem Arriving.stationBoundary (e : Env) {w : World} (hw : P w) : P (World.stationBoundary e w) := by
  refine Working.foldl _ (fun v st hv => h.modStation st _ ?_) _ hw
  split
  · exact h.settling.sendStation _ _ _ (h.modStation st _ hv)
  · exact hv

theorem Arriving.gateTest (e : Env) (l : Fin 4) {w : World} (hw : P w) : P (World.gateTest e w l) := by
  unfold World.gateTest
  split
  · exact hw
  · next timeout _ =>
    have h1 := h.modLane l (fun r => { r with gateTick := none }) (fun _ hok hi => hok hi) hw
    dsimp only
    split
    · exact h1
    · split
      · next hc =>
        simp only [Bool.and_eq_true, decide_eq_true_eq] at hc
        exact h.settling.notice e _ _ _ (h.setMonitor _ (h.sequencing.setOperator trivial (by simp [hc.1.1]) h1) rfl)
      · exact h1

theorem Arriving.lastTakeTest (e : Env) (l : Fin 4) {w : World} (hw : P w) : P (World.lastTakeTest e w l) := by
  unfold World.lastTakeTest
  split
  · exact hw
  · refine h.modLane l _ ?_ hw
    exact fun _ hok hi => hok hi

theorem Arriving.work (e : Env) (t : Task) {w : World} (hw : P w) : P (Task.work e w t) := by
  induction t with
  | engine l =>
    show P (if (w.lane l).state = .idle then w else w.askRecompute l)
    split
    · exact hw
    · exact h.settling.askRecompute l hw
  | lane l => exact h.sequencing.laneArrival trivial e hw
  | boundary => exact h.stationBoundary e hw
  | evaluate l => exact h.evalLane e l hw
  | gate l => exact h.gateTest e l hw
  | lastTake l => exact h.lastTakeTest e l hw
  | ackTimeout p => exact h.timeoutTest e p hw
  | probe p => exact h.probeTest e p hw
  | absent st =>
    show P (w.takeThirdMiss st)
    exact h.modStation st _ hw

theorem Arriving.runTasks (e : Env) (ts : List Task) {w : World} (hw : P w) : P (World.runTasks e w ts) :=
  Working.foldl _ (fun _ t hv => h.settling.settle e (h.work e t hv)) ts hw

theorem Arriving.tick (c : Settings) {w : World} (hw : P w) : P (w.tick c) := by
  refine Working.foldl _ (fun v p hv => h.modPort p _ ?_ hv) _ (Working.foldl _ (fun v l hv => h.modLane l _ ?_ hv) _ hw)
  · exact fun _ hok => hok.of_eq rfl rfl rfl rfl rfl rfl
  · exact fun _ hok hi => hok hi

omit h in
/-- A fold over the part whose steps keep a property of the world keeps it. -/
theorem Dev.foldl_world {α : Type} {f : Dev → α → Dev} (hf : ∀ d a, P d.world → P (f d a).world) (xs : List α) {d : Dev}
    (hd : P d.world) : P (xs.foldl f d).world := by
  induction xs generalizing d with
  | nil => exact hd
  | cons a rest ih => exact ih (hf d a hd)

theorem Arriving.askHardOuts {d : Dev} (hd : P d.world) : P d.askHardOuts.world :=
  Dev.foldl_world (fun d l hd => by split <;> [exact h.settling.askRecompute l hd; exact hd]) _ hd

end Sys2Proof.Machine
end

section
/-! What an orderly property is kept by besides: a frame arrival with the Reference Unit's own work, and what the stations and the panel
bring. -/
namespace Sys2Proof.Machine

-- One proof is checked at a time: the tests above leave little memory for proofs side by side.
set_option Elab.async false

variable {P : World → Prop} (h : Orderly P)
include h

theorem Orderly.setMonitor (m : Monitor) {w : World} (hw : P w) : P (w.setMonitor m) := h.rest hw rfl rfl rfl rfl

/-- A frame arrival's own work, the tests it makes due among it. -/
theorem Orderly.arrive (r : RefUnit) (label : Option Label) {d : Dev} (hd : P d.world) : P (d.arrive r label).world := by
  unfold Dev.arrive
  extract_lets k d1 d2 d3
  have h2 : P d2.world := by
    unfold d2
    split
    · exact h.askHardOuts hd
    · exact hd
  refine h.tick _ ?_
  unfold d3
  split
  · exact h.settling.notice _ _ _ _ (h.setMonitor _ h2)
  · exact h2

/-- A frame arrival, in whatever order the blocks act (R53). -/
theorem Orderly.arrival (r : RefUnit) (label : Option Label) {s : State} (hs : P s.dev.world) :
    P (s.arrival r label).dev.world :=
  h.runTasks _ _ (h.arrive r label (h.runTasks _ _ hs))

theorem Orderly.event {f : Env → World → World} {s : State} (hf : P (f s.dev.env s.dev.world)) : P (s.event f).dev.world :=
  h.settling.settle _ hf

/-! ### Stations and the panel (R114, R178, R186, R187) -/

theorem Orderly.hear (st : Fin 6) {w : World} (hw : P w) : P (w.hear st) := by
  unfold World.hear
  dsimp only
  split
  · exact h.modStation st _ hw
  · exact h.rest hw rfl rfl rfl rfl

theorem Orderly.stationReady (e : Env) (st : Fin 6) {w : World} (hw : P w) : P (World.stationReady e w st) := by
  unfold World.stationReady
  extract_lets s
  split
  · exact h.rest hw rfl rfl rfl rfl
  · split
    · exact hw
    · next c _ =>
      extract_lets w1
      have h1 : P w1 := h.modStation st _ hw
      split
      · exact h1
      · extract_lets isGate
        split
        · next hc =>
          simp only [Bool.and_eq_true, decide_eq_true_eq] at hc
          exact h.sequencing.evalAuto trivial e (by simp [hc.1.1]) h1
        · exact h1

theorem Orderly.stationHold (e : Env) (st : Fin 6) {w : World} (hw : P w) : P (World.stationHold e w st) := by
  refine h.settling.notice e _ _ _ (h.setMonitor _ ?_)
  split
  · exact h.modStation st _ hw
  · exact hw

theorem Orderly.callHeard (e : Env) (st : Fin 6) {w : World} (hw : P w) : P (World.callHeard e w st) :=
  h.settling.notice e _ _ _ (h.setMonitor _ (h.modStation st _ hw))

theorem Orderly.panelTake (l : Fin 4) {s : State} (hs : P s.dev.world) : P (s.panelTake l).dev.world := by
  unfold State.panelTake
  split
  · exact hs
  · dsimp only
    split
    · next hc =>
      simp only [World.panelTakes, Bool.and_eq_true, decide_eq_true_eq] at hc
      exact h.settling.settle _ (h.sequencing.take trivial _ hc.1.1 hs)
    · exact hs

theorem Orderly.panelHold (l : Fin 4) {s : State} (hs : P s.dev.world) : P (s.panelHold l).dev.world := by
  unfold State.panelHold
  split
  · exact hs
  · dsimp only
    split
    · next hc =>
      simp only [World.panelHolds, Bool.and_eq_true, decide_eq_true_eq] at hc
      exact h.settling.settle _ (h.sequencing.setOperator trivial hc.1 hs)
    · exact hs

end Sys2Proof.Machine
end

section
/-! The requests' changes of the rundown keep the store whole (R1 to R8): items put in, moved and taken out, elements added and
removed, and the stores after the resets. -/
namespace Sys2Proof.Machine

-- One proof is checked at a time: the tests above leave little memory for proofs side by side.
set_option Elab.async false

/-! ### Pools (R1, R2) -/

/-- Allocation takes the first records of a pool and leaves their numbers in their order. -/
theorem allocate_eq_some {free taken left : List Ref} {n : Nat} (h : allocate free n = some (taken, left)) :
    taken.length = n ∧ (taken ++ left).map (·.num) = free.map (·.num) := by
  unfold allocate at h
  split at h
  · cases h
  · next hn =>
    cases h
    refine ⟨by simp; omega, ?_⟩
    rw [List.map_append, List.map_map]
    exact (by rw [← List.map_append, List.take_append_drop] : (free.take n).map (·.num) ++ (free.drop n).map (·.num) = _)

theorem allocate_one {free : List Ref} {x : List Ref × List Ref} {ref : Ref} (h : allocate free 1 = some x)
    (href : x.1.head? = some ref) : x.1 = [ref] ∧ (ref :: x.2).map (·.num) = free.map (·.num) := by
  obtain ⟨hone, hnum⟩ := allocate_eq_some h
  obtain ⟨a, ha⟩ := List.length_eq_one_iff.1 hone
  obtain rfl : a = ref := by simpa [ha] using href
  exact ⟨ha, by rw [← hnum, ha]; rfl⟩

theorem Store.Ok.of_freeElements {s : Store} (h : s.Ok) {free : List Ref} (hf : free.map (·.num) = s.freeElements.map (·.num)) :
    Store.Ok { s with freeElements := free } := by
  obtain ⟨hkeys, hitems, helements⟩ := h
  refine ⟨hkeys, hitems, ?_⟩
  rw [List.map_append] at helements ⊢
  rwa [hf]

/-! ### Elements added and removed (R19, R42, R44, R45) -/

/-- An item rewritten with another list of elements, whose records come from and go to the pool, leaves the store whole. -/
theorem exists_spot_iff {xs : List Item} {k : Nat} {l : Fin 4} {pl : Place} :
    (∃ x ∈ xs, x.key = k ∧ x.lane = l ∧ x.place = pl) ↔ (k, l, pl) ∈ xs.map (fun x => (x.key, x.lane, x.place)) := by
  rw [List.mem_map]
  exact exists_congr fun x => and_congr_right fun _ => by rw [Prod.mk.injEq, Prod.mk.injEq]

theorem Store.Whole.modElements {s : Store} (h : s.Whole) {k : Nat} {it : Item} (hit : s.item? k = some it) {f : Item → Item}
    (hf : ∀ x, (f x).key = x.key ∧ (f x).ref = x.ref ∧ (f x).lane = x.lane ∧ (f x).place = x.place) {free : List Ref}
    (helements : (((f it).elements.map (·.ref) ++ free).map (·.num)).Perm
      ((it.elements.map (·.ref) ++ s.freeElements).map (·.num))) :
    Store.Whole { s.modItem k f with freeElements := free } := by
  set g : Item → Item := fun x => if x.key = k then { f x with elements := x.elements } else x with hg
  have hspot : ∀ x, (g x).SameSpot x := by
    intro x
    obtain ⟨hkey, href, hlane, hplace⟩ := hf x
    by_cases hk : x.key = k <;> simp only [hg, hk, if_true, if_false]
    · exact ⟨by rw [hkey, hk], href, hlane, hplace, rfl⟩
    · exact Item.SameSpot.refl x
  obtain ⟨⟨hkeys, hitems, -⟩, hnodup, horders, hstandbys⟩ := h.map hspot
  have hproj : ∀ {β : Type} (p : Item → β), (∀ x, p (f x) = p { f x with elements := x.elements }) →
      (s.modItem k f).items.map p = (s.items.map g).map p := by
    intro β p hp
    simp only [Store.modItem, List.map_map, hg]
    refine List.map_congr_left fun x _ => ?_
    simp only [Function.comp]
    split <;> [exact hp x; rfl]
  have hex : ∀ (l : Fin 4) (k' : Nat) (pl : Place),
      (∃ x ∈ (s.modItem k f).items, x.key = k' ∧ x.lane = l ∧ x.place = pl) ↔
        ∃ x ∈ s.items.map g, x.key = k' ∧ x.lane = l ∧ x.place = pl := by
    intro l k' pl
    rw [exists_spot_iff, exists_spot_iff, hproj _ fun _ => rfl]
  have hperm : ((s.modItem k f).items.flatMap (fun x => x.elements.map (·.ref))).Perm
      ((f it).elements.map (·.ref) ++ (s.items.filter (fun x => decide (x.key ≠ k))).flatMap (fun x => x.elements.map (·.ref))) := by
    have h1 := (h.1.perm_cons_filter hit).map (fun x => if x.key = k then f x else x)
    have h2 : (s.items.filter (fun x => decide (x.key ≠ k))).map (fun x => if x.key = k then f x else x) =
        s.items.filter (fun x => decide (x.key ≠ k)) := by
      refine (List.map_congr_left fun x hx => ?_).trans (List.map_id _)
      simp only [List.mem_filter, decide_eq_true_eq] at hx
      exact if_neg hx.2
    rw [List.map_cons, h2, if_pos (Store.item?_key hit)] at h1
    exact h1.flatMap_right _
  refine ⟨⟨?_, ?_, ?_⟩, hnodup, fun l k' => (horders l k').trans (hex l k' _).symm,
    fun l k' => (hstandbys l k').trans (hex l k' _).symm⟩
  · exact (hproj (·.key) fun _ => rfl) ▸ hkeys
  · show (((s.modItem k f).items.map (·.ref) ++ s.freeItems).map _).Perm _
    rw [hproj (·.ref) fun _ => rfl]
    exact hitems
  · refine List.Perm.trans ?_ h.1.2.2
    have hold := ((h.1.perm_cons_filter hit).flatMap_right (fun x => x.elements.map (·.ref)))
    set others := (s.items.filter (fun x => decide (x.key ≠ k))).flatMap (fun x => x.elements.map (·.ref))
    calc (((s.modItem k f).items.flatMap (fun x => x.elements.map (·.ref)) ++ free).map (·.num)).Perm
          (((f it).elements.map (·.ref) ++ others ++ free).map (·.num)) := (hperm.append_right _).map _
      List.Perm _ ((others ++ ((f it).elements.map (·.ref) ++ free)).map (·.num)) := by
        rw [← List.append_assoc others]
        exact (List.perm_append_comm.append_right free).map _
      List.Perm _ ((others ++ (it.elements.map (·.ref) ++ s.freeElements)).map (·.num)) := by
        rw [List.map_append, List.map_append (l₁ := others)]
        exact helements.append_left _
      List.Perm _ ((it.elements.map (·.ref) ++ others ++ s.freeElements).map (·.num)) :=
        ((by rw [← List.append_assoc] : List.Perm _ (others ++ it.elements.map (·.ref) ++ s.freeElements)).trans
          (List.Perm.append_right _ List.perm_append_comm)).map _
      List.Perm _ ((s.items.flatMap (fun x => x.elements.map (·.ref)) ++ s.freeElements).map (·.num)) :=
        ((hold.symm).append_right _).map _

theorem Store.item?_isSome_iff {s : Store} {k : Nat} : (s.item? k).isSome ↔ k ∈ s.items.map (·.key) := by
  simp [Store.item?, List.find?_isSome]

theorem Store.modItem_keys (s : Store) (k : Nat) {f : Item → Item} (hf : ∀ x, (f x).key = x.key) :
    (s.modItem k f).items.map (·.key) = s.items.map (·.key) := by
  rw [Store.modItem, List.map_map]
  exact List.map_congr_left fun x _ => by simp only [Function.comp]; split <;> [exact hf x; rfl]

/-- A STAMP gives its items the records that it is given, in their order (R45). -/
theorem Store.Whole.stamp {s : Store} (c : Content) (offset : Nat) (xs : List (Item × Ref)) {free : List Ref}
    (hkeys : ∀ x ∈ xs, (s.item? x.1.key).isSome) (h : Store.Whole { s with freeElements := xs.map (·.2) ++ free }) :
    Store.Whole (Store.stamp { s with freeElements := free } c offset xs) := by
  induction xs generalizing s with
  | nil => exact h
  | cons x rest ih =>
    obtain ⟨it, ref⟩ := x
    obtain ⟨found, hfound⟩ := Option.isSome_iff_exists.1 (hkeys _ (List.mem_cons_self ..))
    refine ih (s := s.modItem it.key _) (fun y hy => ?_) (h.modElements (k := it.key)
      (f := fun i => { i.revised with elements := i.elements ++ [Element.create ref c offset] }) hfound
      (fun x => ⟨rfl, rfl, rfl, rfl⟩) (List.Perm.of_eq ?_))
    · rw [Store.item?_isSome_iff, Store.modItem_keys _ _ (by intro x; rfl), ← Store.item?_isSome_iff]
      exact hkeys y (List.mem_cons_of_mem _ hy)
    · simp [Element.create]

/-! ### INSERT (R28 to R31) -/

theorem placeBefore_perm (order : List Nat) (before : Nat) (keys : List Nat) :
    (placeBefore order before keys).Perm (order ++ keys) := by
  unfold placeBefore
  split
  · exact List.Perm.refl _
  · have hsplit : order = order.takeWhile (fun k => decide (k ≠ before)) ++ order.dropWhile (fun k => decide (k ≠ before)) :=
      (List.takeWhile_append_dropWhile).symm
    conv_rhs => rw [hsplit]
    rw [List.append_assoc, List.append_assoc]
    exact List.perm_append_comm.append_left _

@[simp] theorem mem_placeBefore {order : List Nat} {before : Nat} {keys : List Nat} {k : Nat} :
    k ∈ placeBefore order before keys ↔ k ∈ order ∨ k ∈ keys :=
  (placeBefore_perm ..).mem_iff.trans List.mem_append

/-- The place that an INSERT's position gives its item. -/
def Position.place : Position → Place
  | .before _ => .order
  | .standby => .standby

theorem Store.Whole.insert {s : Store} (h : s.Whole) {l : Fin 4} {position : Position} {it : Item} {freeItems freeElements : List Ref}
    (hkey : s.item? it.key = none) (hlane : it.lane = l) (hplace : it.place = position.place)
    (hstandby : position = .standby → s.standbys.get l = none)
    (hitem : (it.ref :: freeItems).map (·.num) = s.freeItems.map (·.num))
    (helement : (it.elements.map (·.ref) ++ freeElements).map (·.num) = s.freeElements.map (·.num)) :
    (s.insert l position it freeItems freeElements).Whole := by
  obtain ⟨⟨hkeys, hitems, helements⟩, hnodup, horders, hstandbys⟩ := h
  have hnew : ∀ x ∈ s.items, x.key ≠ it.key := by simpa [Store.item?] using hkey
  have hok : Store.Ok { s with items := s.items ++ [it], freeItems, freeElements } := by
    refine ⟨?_, ?_, ?_⟩
    · rw [List.map_append, List.nodup_append]
      refine ⟨hkeys, by simp, ?_⟩
      simpa using fun x hx => hnew x hx
    · refine List.Perm.trans (List.Perm.of_eq ?_) hitems
      simp only [List.map_append, List.map_cons, List.map_nil, List.append_assoc, List.cons_append, List.nil_append]
      simpa using hitem
    · refine List.Perm.trans (List.Perm.of_eq ?_) helements
      rw [List.map_append] at helement
      simp only [List.flatMap_append, List.map_append, List.append_assoc, List.flatMap_cons, List.flatMap_nil, List.append_nil]
      rw [helement]
  have hex : ∀ (m : Fin 4) (k : Nat) (pl : Place),
      (∃ x ∈ s.items ++ [it], x.key = k ∧ x.lane = m ∧ x.place = pl) ↔
        (∃ x ∈ s.items, x.key = k ∧ x.lane = m ∧ x.place = pl) ∨ (it.key = k ∧ l = m ∧ position.place = pl) := by
    intro m k pl
    simp only [List.mem_append, List.mem_singleton, or_and_right, exists_or, exists_eq_left, hlane, hplace]
  induction position with
  | before b =>
    refine ⟨hok, fun m => ?_, fun m k => ?_, fun m k => ?_⟩
    · simp only [Store.insert, Tbl.get_set]
      split
      · next hm =>
        subst hm
        refine (placeBefore_perm ..).nodup_iff.2 (List.nodup_append.2 ⟨hnodup _, by simp, ?_⟩)
        rintro k hk _ hk' rfl
        obtain ⟨x, hx, hxk, -⟩ := (horders _ _).1 hk
        exact hnew x hx (hxk.trans (by simpa using hk'))
      · exact hnodup m
    · simp only [Store.insert, hex, Tbl.get_set, ← horders]
      split
      · next hm => subst hm; simp [Position.place, eq_comm]
      · next hm => simp [hm]
    · simp only [Store.insert, hex, hstandbys, Position.place, reduceCtorEq, and_false, or_false]
  | standby =>
    refine ⟨hok, hnodup, fun m k => ?_, fun m k => ?_⟩
    · simp only [Store.insert, hex, horders, Position.place, reduceCtorEq, and_false, or_false]
    · simp only [Store.insert, hex, Tbl.get_set, ← hstandbys]
      split
      · next hm => subst hm; simp [Position.place, hstandby rfl]
      · next hm => simp [hm]

/-- An absorber field taken away leaves its item where it stands (R12). -/
theorem Store.Whole.loseAbsorber {s : Store} (h : s.Whole) (l : Fin 4) (k : Nat) : (s.loseAbsorber l k).Whole :=
  h.map fun it => by split <;> exact Item.SameSpot.refl _

theorem Store.Whole.modItem {s : Store} (h : s.Whole) (k : Nat) {f : Item → Item} (hf : ∀ it, (f it).SameSpot it) :
    (s.modItem k f).Whole :=
  h.map fun it => by split <;> [exact hf it; exact Item.SameSpot.refl _]

/-- An item found and rewritten where it stands. -/
theorem Store.Whole.modFound {s : Store} (h : s.Whole) {k : Nat} {it : Item} (hit : s.item? k = some it) {f : Item → Item}
    (hf : (f it).SameSpot it) : (s.modItem k f).Whole := by
  have hg : s.modItem k f = { s with items := s.items.map (fun x => if x = it then f it else x) } := by
    simp only [Store.modItem]
    congr 1
    refine List.map_congr_left fun x hx => ?_
    obtain ⟨hmem, rfl⟩ := h.1.item?_iff.1 hit
    by_cases hk : x.key = it.key
    · rw [if_pos hk, h.1.eq_of_key hx hmem hk, if_pos rfl]
    · rw [if_neg hk, if_neg fun he : x = it => hk (he ▸ rfl)]
  rw [hg]
  exact h.map fun x => by
    split
    · next hx => exact hx ▸ hf
    · exact Item.SameSpot.refl x

theorem Store.loseAbsorber_item? {s : Store} {l : Fin 4} {k : Nat} {it : Item} (hit : s.item? k = some it) :
    (s.loseAbsorber l k).item? k = some it := by
  have hk := Store.item?_key hit
  have hcomp : ∀ x : Item, (if x.lane = l ∧ x.key ≠ k ∧ x.absorber.isSome then { x.revised with absorber := none } else x).key =
      x.key := fun x => by split <;> rfl
  rw [Store.item?, Store.loseAbsorber, List.find?_map]
  simp only [Function.comp_def, hcomp]
  rw [show s.items.find? (fun x => decide (x.key = k)) = some it from hit]
  simp [hk]

/-! ### MOVE (R36) -/

theorem Item.moved_eq (target : Fin 4) (b : Bool) (it : Item) :
    ((it.moved target b).key = it.key ∧ (it.moved target b).ref = it.ref ∧
      (it.moved target b).elements.map (·.ref) = it.elements.map (·.ref)) ∧
    (it.moved target b).place = it.place ∧ (it.moved target b).lane = target := by
  unfold Item.moved
  split
  · next hl => exact ⟨⟨rfl, rfl, rfl⟩, rfl, hl⟩
  · exact ⟨⟨rfl, rfl, rfl⟩, rfl, rfl⟩

theorem Store.Whole.move {s : Store} (h : s.Whole) {source target : Fin 4} {run : List Nat} (before : Nat)
    (hrun : run.Nodup) (hsource : ∀ k ∈ run, k ∈ s.orders.get source) : (s.move source target run before).Whole := by
  obtain ⟨hok, hnodup, horders, hstandbys⟩ := h
  set b : Bool := s.items.any (fun it => decide (it.lane = target) && it.absorber.isSome && !run.contains it.key)
  have hstood : ∀ x ∈ s.items, x.key ∈ run → x.lane = source ∧ x.place = .order := by
    intro x hx hk
    obtain ⟨y, hy, hyk, hrest⟩ := (horders _ _).1 (hsource _ hk)
    rwa [hok.eq_of_key hy hx hyk] at hrest
  have hkeeps : ∀ it : Item, ((if run.contains it.key then it.moved target b else it).key = it.key ∧
      (if run.contains it.key then it.moved target b else it).ref = it.ref ∧
      (if run.contains it.key then it.moved target b else it).elements.map (·.ref) = it.elements.map (·.ref)) := by
    intro it
    split
    · exact (it.moved_eq target b).1
    · exact ⟨rfl, rfl, rfl⟩
  have hex : ∀ (m : Fin 4) (k : Nat) (pl : Place),
      (∃ x ∈ (s.move source target run before).items, x.key = k ∧ x.lane = m ∧ x.place = pl) ↔
        if k ∈ run then m = target ∧ pl = .order else ∃ x ∈ s.items, x.key = k ∧ x.lane = m ∧ x.place = pl := by
    intro m k pl
    simp only [Store.move, List.mem_map, exists_exists_and_eq_and]
    constructor
    · rintro ⟨x, hx, hxk, hxl, hxp⟩
      rw [(hkeeps x).1] at hxk
      subst hxk
      by_cases hk : x.key ∈ run <;> simp only [hk, if_true, if_false, List.contains_iff_mem] at hxl hxp ⊢
      · rw [(x.moved_eq target b).2.2] at hxl
        rw [(x.moved_eq target b).2.1, (hstood x hx hk).2] at hxp
        exact ⟨hxl.symm, hxp.symm⟩
      · exact ⟨x, hx, rfl, hxl, hxp⟩
    · split
      · next hk =>
        rintro ⟨rfl, rfl⟩
        obtain ⟨x, hx, rfl, -, hxp⟩ := (horders _ _).1 (hsource _ hk)
        refine ⟨x, hx, (hkeeps x).1, ?_⟩
        have hc : run.contains x.key = true := by simpa using hk
        simp only [hc, if_true]
        exact ⟨(x.moved_eq _ b).2.2, (x.moved_eq _ b).2.1.trans hxp⟩
      · next hk =>
        rintro ⟨x, hx, rfl, hxl, hxp⟩
        have hc : ¬ run.contains x.key = true := by simpa using hk
        exact ⟨x, hx, (hkeeps x).1, by rw [if_neg hc]; exact ⟨hxl, hxp⟩⟩
  have htaken : ∀ m, (s.move source target run before).orders.get m =
      if m = target then placeBefore (if m = source then (s.orders.get m).filter (fun k => !run.contains k) else s.orders.get m) before run
      else if m = source then (s.orders.get m).filter (fun k => !run.contains k) else s.orders.get m := by
    intro m
    simp only [Store.move, Tbl.get_modify, eq_comm (a := source), eq_comm (a := target)]
  have hout : ∀ m k, (k ∈ if m = source then (s.orders.get m).filter (fun k => !run.contains k) else s.orders.get m) ↔
      k ∈ s.orders.get m ∧ k ∉ run := by
    intro m k
    split
    · simp
    · next hm =>
      refine ⟨fun hk => ⟨hk, fun hr => hm ?_⟩, And.left⟩
      obtain ⟨x, hx, rfl, hxl, -⟩ := (horders _ _).1 hk
      exact hxl.symm.trans (hstood x hx hr).1
  refine ⟨hok.map hkeeps, fun m => ?_, fun m k => ?_, fun m k => ?_⟩
  · have hnd : (if m = source then (s.orders.get m).filter (fun k => !run.contains k) else s.orders.get m).Nodup := by
      split <;> [exact (hnodup m).filter _; exact hnodup m]
    rw [htaken]
    split
    · refine (placeBefore_perm ..).nodup_iff.2 (List.nodup_append.2 ⟨hnd, hrun, ?_⟩)
      rintro k hk _ hr rfl
      exact ((hout m k).1 hk).2 hr
    · exact hnd
  · rw [hex, htaken]
    have hm := hout m k
    by_cases hk : k ∈ run
    · rw [if_pos hk]
      by_cases ht : m = target
      · rw [if_pos ht, mem_placeBefore]
        exact ⟨fun _ => ⟨ht, rfl⟩, fun _ => .inr hk⟩
      · rw [if_neg ht, hm]
        exact ⟨fun h => absurd hk h.2, fun h => absurd h.1 ht⟩
    · rw [if_neg hk, ← horders]
      split
      · rw [mem_placeBefore, hm]
        exact ⟨fun h => (h.resolve_right hk).1, fun h => .inl ⟨h, hk⟩⟩
      · rw [hm]
        exact and_iff_left hk
  · rw [hex]
    split
    · next hk =>
      simp only [reduceCtorEq, and_false, iff_false]
      intro hst
      obtain ⟨x, hx, rfl, -, hxp⟩ := (hstandbys m k).1 hst
      simp [(hstood x hx hk).2] at hxp
    · exact hstandbys m k

/-! ### The resets (R2, R3) -/

theorem freshRecords_num (start n : Nat) : (freshRecords start n).map (·.num) = List.range' start n := by
  induction n generalizing start with
  | zero => rfl
  | succ n ih => simp [freshRecords, ih, List.range'_succ]

theorem Store.placed_of_empty {s : Store} (hitems : s.items = []) (horders : s.orders = Tbl.fill 4 [])
    (hstandbys : s.standbys = Tbl.fill 4 none) : s.Placed := by
  refine ⟨fun l => ?_, fun l k => ?_, fun l k => ?_⟩ <;> simp [hitems, horders, hstandbys]

theorem Store.reset_whole : Store.reset.Whole := by
  refine ⟨⟨List.nodup_nil, ?_, ?_⟩, Store.placed_of_empty rfl rfl rfl⟩
  all_goals
    refine List.Perm.of_eq ((freshRecords_num 0 _).trans ?_)
    exact List.range_eq_range'.symm

theorem Store.Whole.warm {s : Store} (h : s.Whole) : s.warm.Whole := by
  refine ⟨⟨List.nodup_nil, ?_, ?_⟩, Store.placed_of_empty rfl rfl rfl⟩
  · show ((s.freeItems ++ s.items.map (·.ref)).map (·.num)).Perm _
    exact (List.perm_append_comm.map _).trans h.1.2.1
  · show ((s.freeElements ++ s.items.flatMap (fun it => it.elements.map (·.ref))).map (·.num)).Perm _
    exact (List.perm_append_comm.map _).trans h.1.2.2

end Sys2Proof.Machine
end

section
/-! What deriving NEXT in some lanes leaves of the part (R22, R97 to R103): `World.Derives`. An edit's notice is such a derivation, so
that what an edit changes is what it writes. -/
namespace Sys2Proof.Machine

-- One proof is checked at a time: the tests above leave little memory for proofs side by side.
set_option Elab.async false

/-- What of a world stands where only the lanes `L` are acted on: the other lanes, and what the blocks' working never writes. -/
structure World.Stands (L : Fin 4 → Prop) (v w : World) : Prop where
  lanes : ∀ l, ¬L l → (w.lane l).standing = (v.lane l).standing
  ports : ∀ p, (w.ports.get p).standing = (v.ports.get p).standing
  stations : ∀ st, (w.stations.get st).standing = (v.stations.get st).standing
  services : ∀ d, (w.map.get d).service = (v.map.get d).service
  timing : w.timing = v.timing
  monitor : w.monitor = v.monitor
  pulse : w.pulse = v.pulse
  sdo : w.out.sdo = v.out.sdo

theorem World.Stands.refl (L : Fin 4 → Prop) (v : World) : v.Stands L v :=
  ⟨fun _ _ => rfl, fun _ => rfl, fun _ => rfl, fun _ => rfl, rfl, rfl, rfl, rfl⟩

theorem World.Stands.keeps {L : Fin 4 → Prop} {v w : World} (h : v.Stands L w) {ls : List (Fin 4)} (hls : ∀ l, L l → l ∈ ls) :
    v.Keeps w ls :=
  ⟨fun l hl => h.lanes l (fun hL => hl (hls l hL)), h.ports, h.stations, h.services, h.timing, h.monitor, h.pulse, h.sdo⟩

/-- What deriving NEXT in the lanes `L` leaves besides: the rundown, but for states and the operating fields of elements; and of the
lanes themselves the cursor, and whether they are IDLE. -/
structure World.Derives (L : Fin 4 → Prop) (v w : World) : Prop extends World.Stands L v w where
  records : w.store.records = v.store.records
  orders : w.store.orders = v.store.orders
  standbys : w.store.standbys = v.store.standbys
  freeItems : w.store.freeItems = v.store.freeItems
  freeElements : w.store.freeElements = v.store.freeElements
  kept : ∀ l, (w.lane l).kept = (v.lane l).kept
  cursor : ∀ l, (w.lane l).cursor = (v.lane l).cursor

theorem World.Derives.refl (L : Fin 4 → Prop) (v : World) : v.Derives L v :=
  { World.Stands.refl L v with
    records := rfl, orders := rfl, standbys := rfl, freeItems := rfl, freeElements := rfl, kept := fun _ => rfl
    cursor := fun _ => rfl }

/-- A lane record written over by one that reads the same reads the same everywhere. -/
theorem World.read_setLane {β : Type} (g : LaneRec → β) {w : World} {l : Fin 4} {r : LaneRec} (hr : g r = g (w.lane l))
    (l' : Fin 4) : g ((w.setLane l r).lane l') = g (w.lane l') := by
  rw [World.setLane_lane]
  split
  · next hl => rw [hr, hl]
  · rfl

theorem Store.records_map {s : Store} {f : Item → Item} (hf : ∀ it, (f it).record = it.record) :
    Store.records { s with items := s.items.map f } = s.records := by
  simp [Store.records, Function.comp_def, hf]

theorem LaneRec.cursor_of_standing {r r' : LaneRec} (h : r'.standing = r.standing) : r'.cursor = r.cursor :=
  (congrArg LaneRec.cursor h : r'.standing.cursor = r.standing.cursor)

theorem deriving_derives (L : Fin 4 → Prop) (v : World) : Deriving L (World.Derives L v) where
  lane l r h hr :=
    { h with
      lanes := fun l' hl' => (World.read_setLane LaneRec.standing hr l').trans (h.lanes l' hl')
      kept := fun l' => (World.read_setLane LaneRec.kept (LaneRec.kept_of_standing hr) l').trans (h.kept l')
      cursor := fun l' => (World.read_setLane LaneRec.cursor (LaneRec.cursor_of_standing hr) l').trans (h.cursor l') }
  elems _ h hf hr := { h with records := (Store.records_map_elements _ hf hr).trans h.records }
  port p r h hr _ := { h with ports := fun p' => (Tbl.read_set Port.standing _ hr p').trans (h.ports p') }
  station st r h hr := { h with stations := fun st' => (Tbl.read_set Station.standing _ hr st').trans (h.stations st') }
  entry d m h hm _ := { h with services := fun d' => (Tbl.read_set MapEntry.service _ hm d').trans (h.services d') }
  rolls _ h := { h with }
  due _ _ h := { h with }
  loads _ h := { h with }
  out _ h ho := { h with sdo := ho.trans h.sdo }
  derive {w} l r hl h hr hc _ :=
    { h with
      lanes := fun l' hl' => by
        rw [World.setLane_lane, if_neg (by rintro rfl; exact hl' hl)]
        exact h.lanes l' hl'
      kept := fun l' => (World.read_setLane LaneRec.kept hr l').trans (h.kept l')
      cursor := fun l' => (World.read_setLane LaneRec.cursor hc l').trans (h.cursor l') }
  states _ h hf := { h with records := (Store.records_map hf).trans h.records }

end Sys2Proof.Machine
end

section
/-! What the requests leave of the part (R25 to R46): a property of the world that is orderly, and one of the Reference Unit that RATE,
REFCFG and CLOCKSET keep, are kept by every request's handler. -/
namespace Sys2Proof.Machine

-- One proof is checked at a time: the tests above leave little memory for proofs side by side.
set_option Elab.async false

/-- What a handler leaves, where it is not refused and does not leave the part as it was, has the property `Q`. -/
def Leaves (Q : Dev → Prop) : Except Status Answer → Prop
  | .ok (.write d _) => Q d
  | .ok (.done d _) => Q d
  | _ => True

theorem Leaves.bind {α : Type} {Q : Dev → Prop} {x : Except Status α} {f : α → Except Status Answer}
    (hf : ∀ a, x = .ok a → Leaves Q (f a)) : Leaves Q (x >>= f) := by
  induction x with
  | error st => trivial
  | ok a => exact hf a rfl

theorem Leaves.done {Q : Dev → Prop} {d : Dev} {reply : Dev → List Byte} (hd : Q d) : Leaves Q (.ok (.done d reply)) := hd

/-- A part that keeps `Q` through its settling keeps it through the service of a request. -/
theorem Leaves.finish {Q : Dev → Prop} {d : Dev} {x : Except Status Answer} (hx : Leaves Q x) (hd : Q d)
    (hsettle : ∀ d', Q d' → Q d'.settle) : Q (finish d x).1 := by
  rcases x with st | (p | ⟨d1, p⟩ | ⟨d1, f⟩)
  · exact hd
  · exact hd
  · exact hx
  · exact hsettle _ hx

theorem want_ok {b : Bool} {st : Status} {u : Unit} (h : want b st = .ok u) : b = true := by
  induction b with
  | false => cases h
  | true => rfl

theorem need_ok {α : Type} {o : Option α} {st : Status} {a : α} (h : need o st = .ok a) : o = some a := by
  induction o with
  | none => cases h
  | some b => cases h; rfl

theorem Dev.find_ok {d : Dev} {k : Nat} {it : Item} (h : d.find k = .ok it) : d.world.item? k = some it := need_ok h

/-- The world has the property `P` and the Reference Unit the property `R`. -/
def Dev.Has (P : World → Prop) (R : RefUnit → Prop) (d : Dev) : Prop := P d.world ∧ R d.env.ref

/-- `R` is kept by what the requests do to the Reference Unit (R61, R67, R68). -/
structure RefKept (R : RefUnit → Prop) : Prop where
  rate : ∀ {r} x, R r → R (r.toRate x)
  configure : ∀ {r} q, R r → R (r.configure q)
  label : ∀ {r} (l : Label), R r → R { r with pendingLabel := some l }

section Edits
variable {P : World → Prop} {R : RefUnit → Prop} (h : Orderly P) {d : Dev} (hd : d.Has P R)
include h

theorem Orderly.settled (hd : d.Has P R) : d.settle.Has P R := ⟨h.settling.settle _ hd.1, hd.2⟩

theorem Orderly.noticed (l : Fin 4) (n : Notice) (hd : d.Has P R) : (d.notice l n).Has P R :=
  ⟨h.sequencing.deriving.applyNotice _ l trivial n hd.1, hd.2⟩

theorem Orderly.disarmIf (e : Env) (l : Fin 4) (b : Bool) {w : World} (hw : P w) : P (if b then World.disarm e w l else w) := by
  split <;> [exact h.sequencing.deriving.disarm e l trivial hw; exact hw]

theorem Orderly.modItem (k : Nat) {f : Item → Item} (hf : ∀ it, (f it).SameSpot it) {w : World} (hw : P w) : P (w.modItem k f) :=
  h.store _ hw fun hs => hs.modItem k hf

include hd

theorem Orderly.edited (w : World) (l : Fin 4) (b : Bool) (hw : P w) : (d.edit w l b).Has P R :=
  h.noticed l _ ⟨hw, hd.2⟩

theorem Orderly.editedElement (w : World) (it : Item) (c : ElemChange) (hw : P w) : (d.editElement w it c).Has P R :=
  h.noticed _ _ ⟨hw, hd.2⟩

/-! ### INSERT and AMEND (R28 to R34) -/

omit h hd in
theorem copyElements_ref {refs : List Ref} {els : List Element} (hlen : refs.length = els.length) :
    (copyElements refs els).map (·.ref) = refs := by
  have hzip : (copyElements refs els).map (·.ref) = (refs.zip els).map Prod.fst := by
    simp [copyElements, Function.comp_def, Element.create]
  rw [hzip, List.map_fst_zip hlen.le]

theorem Orderly.insertHandler (p : List Byte) : Leaves (Dev.Has P R) (insertHandler d p) := by
  unfold Machine.insertHandler
  refine Leaves.bind fun q _ => Leaves.bind fun l _ => Leaves.bind fun _ _ => Leaves.bind fun _ _ => Leaves.bind fun _ _ =>
    Leaves.bind fun _ _ => Leaves.bind fun _ _ => ?_
  extract_lets source copied
  rename_i placed
  refine Leaves.bind fun _ _ => Leaves.bind fun _ hnew => ?_
  suffices hplaced : ∀ before, Leaves (Dev.Has P R) (placed before) by
    split
    · exact Leaves.bind fun _ _ => hplaced _
    · exact Leaves.bind fun _ _ => Leaves.bind fun _ _ => hplaced _
    · exact Leaves.bind fun _ _ => hplaced _
  intro before
  refine Leaves.bind fun _ _ => Leaves.bind fun _ _ => Leaves.bind fun _ hplace => Leaves.bind fun items hitems =>
    Leaves.bind fun elems helems => Leaves.bind fun ref href => ?_
  refine h.noticed l _ ⟨h.store _ hd.1 fun hs => ?_, hd.2⟩
  obtain ⟨hlen, hnums⟩ := allocate_eq_some (need_ok helems)
  obtain ⟨-, hnum⟩ := allocate_one (need_ok hitems) (need_ok href)
  have hins : (d.world.store.insert l q.position (q.item l ref (copyElements elems.1 copied)) items.2 elems.2).Whole := by
    refine hs.insert ?_ rfl ?_ ?_ ?_ ?_
    · exact Option.isNone_iff_eq_none.1 (want_ok hnew)
    · cases hq : q.position <;> simp [InsertReq.item, hq, Position.place]
    · intro hq
      simpa [hq, World.hasStandby] using want_ok hplace
    · exact hnum
    · rw [← hnums]
      simp only [InsertReq.item, copyElements_ref hlen]
  split
  · exact hins.loseAbsorber _ _
  · exact hins

theorem Orderly.amendHandler (p : List Byte) : Leaves (Dev.Has P R) (amendHandler d p) := by
  unfold Machine.amendHandler
  refine Leaves.bind fun q _ => Leaves.bind fun _ _ => Leaves.bind fun _ _ => Leaves.bind fun _ _ => Leaves.bind fun _ _ =>
    Leaves.bind fun it hit => Leaves.bind fun _ _ => Leaves.bind fun _ _ => Leaves.bind fun _ _ => ?_
  extract_lets it1 s s1 s2
  split
  · trivial
  · refine h.edited hd _ _ _ (h.store _ hd.1 fun hs => ?_)
    have hfound : s1.Whole ∧ s1.item? q.key = some it := by
      have hk : it.key = q.key := Store.item?_key (Dev.find_ok hit)
      unfold s1
      split
      · exact ⟨hs.loseAbsorber _ _, hk ▸ Store.loseAbsorber_item? (hk ▸ Dev.find_ok hit)⟩
      · exact ⟨hs, Dev.find_ok hit⟩
    refine hfound.1.modFound hfound.2 ?_
    split <;> exact Item.SameSpot.refl it

/-! ### MOVE, FLOAT and RESTORE (R35 to R39) -/

theorem Orderly.moveHandler (p : List Byte) : Leaves (Dev.Has P R) (moveHandler d p) := by
  unfold Machine.moveHandler
  refine Leaves.bind fun q _ => Leaves.bind fun target _ => Leaves.bind fun _ _ => ?_
  extract_lets count w
  refine Leaves.bind fun it hit => ?_
  extract_lets source order run items moved isNext w1 w2 w3 n1 d1 n2 d2 placed
  suffices hplaced : ∀ before, Leaves (Dev.Has P R) (placed before) by
    split
    · exact Leaves.bind fun _ _ => hplaced _
    · exact Leaves.bind fun _ _ => Leaves.bind fun _ _ => hplaced _
  intro before
  refine Leaves.bind fun _ _ => Leaves.bind fun _ _ => Leaves.bind fun _ _ => Leaves.bind fun _ _ => Leaves.bind fun _ _ =>
    Leaves.bind fun _ _ => ?_
  split
  · trivial
  · have hw1 : P w1 ∧ w1.store.orders = w.store.orders := by
      refine ⟨h.disarmIf _ _ _ hd.1, ?_⟩
      unfold w1
      split
      · exact ((deriving_derives _ w).disarm d.env source rfl (.refl _ w)).orders
      · rfl
    have hw2 : P w2 ∧ w2.store = w1.store := by
      unfold w2
      split
      · split
        · exact ⟨h.modLane source _ (by exact fun _ hok hi => hok hi) hw1.1, rfl⟩
        · exact ⟨hw1.1, rfl⟩
      · exact ⟨hw1.1, rfl⟩
    have hw3 : P w3 := h.store _ hw2.1 fun hs => by
      have hsub : run.Sublist (w2.store.orders.get source) := by
        rw [hw2.2, hw1.2]
        exact (List.take_sublist ..).trans (List.dropWhile_sublist _)
      exact hs.move _ (hsub.nodup (hs.2.1 source)) fun k hk => hsub.subset hk
    have h1 : d1.Has P R := h.noticed _ _ ⟨hw3, hd.2⟩
    show d2.Has P R
    unfold d2
    split
    · exact h1
    · exact h.noticed _ _ h1

theorem Orderly.floatHandler (p : List Byte) : Leaves (Dev.Has P R) (floatHandler d p) := by
  unfold Machine.floatHandler
  refine Leaves.bind fun k _ => Leaves.bind fun _ _ => Leaves.bind fun it _ => Leaves.bind fun _ _ => Leaves.bind fun _ _ => ?_
  dsimp only
  split
  · trivial
  · exact h.edited hd _ _ _ (h.modItem k (by exact fun it => ⟨rfl, rfl, rfl, rfl, rfl⟩) (h.disarmIf _ _ _ hd.1))

theorem Orderly.restoreHandler (p : List Byte) : Leaves (Dev.Has P R) (restoreHandler d p) := by
  unfold Machine.restoreHandler
  refine Leaves.bind fun k _ => Leaves.bind fun _ _ => Leaves.bind fun it _ => ?_
  dsimp only
  split
  · trivial
  · exact h.edited hd _ _ _ (h.modItem k (by exact fun it => ⟨rfl, rfl, rfl, rfl, rfl⟩) hd.1)

/-! ### KILL and RETIRE (R40, R41) -/

theorem Orderly.killHandler (p : List Byte) : Leaves (Dev.Has P R) (killHandler d p) := by
  unfold Machine.killHandler
  refine Leaves.bind fun k _ => Leaves.bind fun _ _ => Leaves.bind fun it _ => Leaves.bind fun _ _ => ?_
  exact h.edited hd _ _ _ (h.settling.free k (h.disarmIf _ _ _ hd.1) fun _ _ => trivial)

theorem Orderly.retireHandler (p : List Byte) : Leaves (Dev.Has P R) (retireHandler d p) := by
  unfold Machine.retireHandler
  refine Leaves.bind fun q _ => Leaves.bind fun l _ => Leaves.bind fun _ _ => ?_
  extract_lets order walked done count
  split
  · trivial
  · exact h.edited hd _ _ _ (h.sequencing.freeItems _ hd.1 fun _ _ _ _ => trivial)

/-! ### ADDEL, SETEL, DELEL and STAMP (R42 to R46) -/

theorem Orderly.addelHandler (p : List Byte) : Leaves (Dev.Has P R) (addelHandler d p) := by
  unfold Machine.addelHandler
  refine Leaves.bind fun q _ => Leaves.bind fun _ _ => Leaves.bind fun _ _ => Leaves.bind fun content _ => Leaves.bind fun _ _ =>
    Leaves.bind fun it hit => Leaves.bind fun _ _ => Leaves.bind fun _ _ => Leaves.bind fun _ _ =>
    Leaves.bind fun refs hrefs => Leaves.bind fun ref href => ?_
  refine h.editedElement hd _ _ _ (h.store _ hd.1 fun hs => ?_)
  refine hs.modElements (Dev.find_ok hit) (f := Item.addElement q.2.1 (Element.create ref content.1 content.2))
    (fun _ => ⟨rfl, rfl, rfl, rfl⟩) ?_
  obtain ⟨-, hnums⟩ := allocate_one (need_ok hrefs) (need_ok href)
  rw [List.map_append, List.map_append, ← hnums]
  have hinsert : (insertAt it.elements q.2.1 (Element.create ref content.1 content.2)).Perm
      (Element.create ref content.1 content.2 :: it.elements) :=
    List.perm_middle.trans (by rw [List.take_append_drop])
  exact (((hinsert.map (·.ref)).map (·.num)).append_right _).trans List.perm_middle.symm

omit h hd in
theorem modElems_ref {els : List Element} {e : Ref} {f : Element → Element} (hf : ∀ el, (f el).ref = el.ref) :
    (modElems els e f).map (·.ref) = els.map (·.ref) := by
  rw [modElems, List.map_map]
  exact List.map_congr_left fun el _ => by simp only [Function.comp]; split <;> [exact hf el; rfl]

omit h hd in
theorem Element.rewritten_ref (c : Content) (offset : Nat) (el : Element) : (el.rewritten c offset).ref = el.ref := by
  unfold Element.rewritten
  dsimp only
  split <;> rfl

theorem Orderly.setelHandler (p : List Byte) : Leaves (Dev.Has P R) (setelHandler d p) := by
  unfold Machine.setelHandler
  refine Leaves.bind fun q _ => Leaves.bind fun _ _ => Leaves.bind fun _ _ => Leaves.bind fun it hit => Leaves.bind fun el _ =>
    Leaves.bind fun content _ => ?_
  extract_lets offset other
  refine Leaves.bind fun _ _ => ?_
  refine Leaves.bind fun _ _ => Leaves.bind fun _ _ => ?_
  split
  · trivial
  · refine h.editedElement hd _ _ _ (h.modItem _ (fun i => ?_) hd.1)
    exact ⟨rfl, rfl, rfl, rfl, modElems_ref (Element.rewritten_ref content offset)⟩

theorem Orderly.delelHandler (p : List Byte) : Leaves (Dev.Has P R) (delelHandler d p) := by
  unfold Machine.delelHandler
  refine Leaves.bind fun q _ => Leaves.bind fun _ _ => Leaves.bind fun it hit => Leaves.bind fun el hel => ?_
  refine h.editedElement hd _ _ _ (h.store _ (h.settling.forgetRoll _ hd.1) fun hs => ?_)
  refine hs.modElements (Dev.find_ok hit) (f := Item.deleteElement q.2) (fun _ => ⟨rfl, rfl, rfl, rfl⟩)
    (List.Perm.map _ ?_)
  have hperm : (el :: it.elements.eraseIdx q.2).Perm it.elements := by
    obtain ⟨hlt, rfl⟩ := List.getElem?_eq_some_iff.1 (need_ok hel)
    exact List.getElem_cons_eraseIdx_perm hlt
  show ((it.elements.eraseIdx q.2).map (·.ref) ++ (d.world.store.freeElements ++ [el.ref])).Perm _
  rw [← List.append_assoc]
  exact (List.perm_append_singleton _ _).trans ((hperm.map _).append_right _)

omit h hd in
theorem everyNth_sublist {α : Type} (n m : Nat) (xs : List α) : (everyNth n m xs).Sublist xs := by
  induction xs generalizing m with
  | nil => induction m <;> exact List.Sublist.refl _
  | cons a rest ih =>
    induction m with
    | zero => exact (ih _).cons_cons a
    | succ m => exact (ih m).cons a

theorem Orderly.stampHandler (p : List Byte) : Leaves (Dev.Has P R) (stampHandler d p) := by
  unfold Machine.stampHandler
  refine Leaves.bind fun q _ => Leaves.bind fun l _ => ?_
  extract_lets count stride s order run chosen full fitting
  refine Leaves.bind fun _ _ => Leaves.bind fun content _ => Leaves.bind fun _ _ => Leaves.bind fun _ _ => Leaves.bind fun _ _ => ?_
  extract_lets gated given counts
  refine Leaves.bind fun refs hrefs => ?_
  dsimp only
  split
  · trivial
  · refine h.noticed l _ ⟨h.store _ hd.1 fun hs => ?_, hd.2⟩
    obtain ⟨hlen, hnums⟩ := allocate_eq_some (need_ok hrefs)
    refine Store.Whole.stamp _ _ _ (fun x hx => ?_) ⟨?_, hs.2⟩
    · have hmem : x.1 ∈ given := (List.of_mem_zip hx).1
      have hfound : x.1 ∈ s.itemsOf run := by
        have hchosen : x.1 ∈ chosen := List.mem_of_mem_filter (List.mem_of_mem_filter hmem)
        exact List.mem_of_mem_filter ((everyNth_sublist _ _ _).subset hchosen)
      obtain ⟨k, -, hk⟩ := List.mem_filterMap.1 hfound
      rw [Store.item?_key hk]
      exact Option.isSome_of_eq_some hk
    · refine hs.1.of_freeElements ?_
      rw [List.map_snd_zip hlen.le]
      exact hnums

end Edits
end Sys2Proof.Machine
end

section
/-! What the other requests leave of the part (R47 to R52, R61 to R76, R90, R115 to R121, R155 to R157, R173 to R175, R180 to R189,
R193 to R207). -/
namespace Sys2Proof.Machine

-- One proof is checked at a time: the tests above leave little memory for proofs side by side.
set_option Elab.async false

/-! ### The lookups (R47 to R52) -/

section Lookups
variable {Q : Dev → Prop} (d : Dev) (p : List Byte)

theorem Leaves.scanHandler : Leaves Q (scanHandler d p) := by
  unfold Machine.scanHandler
  exact Leaves.bind fun _ _ => Leaves.bind fun _ _ => Leaves.bind fun _ _ => trivial

theorem Leaves.getitemHandler : Leaves Q (getitemHandler d p) := by
  unfold Machine.getitemHandler
  exact Leaves.bind fun _ _ => Leaves.bind fun _ _ => Leaves.bind fun _ _ => trivial

theorem Leaves.getelHandler : Leaves Q (getelHandler d p) := by
  unfold Machine.getelHandler
  exact Leaves.bind fun _ _ => Leaves.bind fun _ _ => Leaves.bind fun _ _ => Leaves.bind fun _ _ => trivial

theorem Leaves.listHandler : Leaves Q (listHandler d p) := by
  unfold Machine.listHandler
  exact Leaves.bind fun _ _ => Leaves.bind fun _ _ => Leaves.bind fun _ _ => trivial

theorem Leaves.timingHandler : Leaves Q (timingHandler d p) := by
  unfold Machine.timingHandler
  exact Leaves.bind fun _ _ => Leaves.bind fun _ _ => Leaves.bind fun _ _ => trivial

theorem Leaves.clockreadHandler : Leaves Q (clockreadHandler d p) := by
  unfold Machine.clockreadHandler
  exact Leaves.bind fun _ _ => trivial

end Lookups

section Requests
variable {P : World → Prop} {R : RefUnit → Prop} (h : Orderly P) (hr : RefKept R) {d : Dev} (hd : d.Has P R) (p : List Byte)
include hd

theorem Dev.Has.withWorld {w : World} (hw : P w) : (d.withWorld w).Has P R := ⟨hw, hd.2⟩

theorem RefKept.clocksetHandler (hr : RefKept R) : Leaves (Dev.Has P R) (clocksetHandler d p) := by
  unfold Machine.clocksetHandler
  exact Leaves.bind fun _ _ => Leaves.bind fun _ _ => ⟨hd.1, hr.label _ hd.2⟩

theorem RefKept.refcfgHandler (hr : RefKept R) : Leaves (Dev.Has P R) (refcfgHandler d p) := by
  unfold Machine.refcfgHandler
  exact Leaves.bind fun _ _ => ⟨hd.1, hr.configure _ hd.2⟩

/-! ### Settings (R93, R159, R193, R200, R207) -/

theorem Dev.Has.portcfgHandler : Leaves (Dev.Has P R) (portcfgHandler d p) := by
  unfold Machine.portcfgHandler
  refine Leaves.bind fun _ _ => Leaves.bind fun _ _ => ?_
  extract_lets written
  split
  · exact Leaves.bind fun _ _ => hd
  · exact Leaves.bind fun _ _ => Leaves.bind fun _ _ => hd

theorem Dev.Has.threshHandler : Leaves (Dev.Has P R) (threshHandler d p) := by
  unfold Machine.threshHandler
  exact Leaves.bind fun _ _ => Leaves.bind fun _ _ => hd

theorem Dev.Has.actionsHandler : Leaves (Dev.Has P R) (actionsHandler d p) := by
  unfold Machine.actionsHandler
  exact Leaves.bind fun _ _ => Leaves.bind fun _ _ => Leaves.bind fun _ _ => hd

include h

theorem Orderly.condreadHandler : Leaves (Dev.Has P R) (condreadHandler d p) := by
  unfold Machine.condreadHandler
  exact Leaves.bind fun _ _ => ⟨h.setMonitor _ hd.1, hd.2⟩

theorem Orderly.attncfgHandler : Leaves (Dev.Has P R) (attncfgHandler d p) := by
  unfold Machine.attncfgHandler
  refine Leaves.bind fun q _ => ?_
  obtain ⟨mask, modeByte⟩ := q
  dsimp only
  split
  · exact Leaves.bind fun _ _ => ⟨h.settling.pulse _ hd.1, hd.2⟩
  · exact Leaves.bind fun _ _ => ⟨h.settling.pulse _ hd.1, hd.2⟩

theorem Orderly.askedRecompute (l : Fin 4) : (d.askRecompute l).Has P R := ⟨h.settling.askRecompute l hd.1, hd.2⟩

theorem Orderly.hardoutHandler : Leaves (Dev.Has P R) (hardoutHandler d p) := by
  unfold Machine.hardoutHandler
  refine Leaves.bind fun _ _ => Leaves.bind fun _ _ => ?_
  extract_lets rate written
  split
  · exact Leaves.bind fun _ _ => h.askedRecompute hd _
  · exact Leaves.bind fun _ _ => h.askedRecompute hd _
  · exact Leaves.bind fun _ _ => Leaves.bind fun _ _ => h.askedRecompute hd _

theorem Orderly.substHandler : Leaves (Dev.Has P R) (substHandler d p) := by
  unfold Machine.substHandler
  refine Leaves.bind fun _ _ => Leaves.bind fun _ _ => ?_
  extract_lets written
  split
  · exact Leaves.bind fun _ _ => h.askedRecompute hd _
  · exact Leaves.bind fun _ _ => h.askedRecompute hd _
  · exact Leaves.bind fun _ _ => h.askedRecompute hd _

omit h hd in
theorem Dev.askHardOuts_env (d : Dev) : d.askHardOuts.env = d.env := by
  unfold Dev.askHardOuts
  generalize places 4 = ls
  induction ls generalizing d with
  | nil => rfl
  | cons l rest ih =>
    rw [List.foldl_cons, ih]
    split <;> rfl

omit hd in
theorem Orderly.rateHandler (hr : RefKept R) (hd : d.Has P R) : Leaves (Dev.Has P R) (rateHandler d p) := by
  unfold Machine.rateHandler
  refine Leaves.bind fun _ _ => Leaves.bind fun rate _ => Leaves.bind fun _ _ => ?_
  split
  · trivial
  · refine ⟨h.askHardOuts hd.1, ?_⟩
    rw [Dev.askHardOuts_env]
    exact hr.rate rate hd.2

theorem Orderly.lanecfgHandler : Leaves (Dev.Has P R) (lanecfgHandler d p) := by
  unfold Machine.lanecfgHandler
  refine Leaves.bind fun q _ => Leaves.bind fun l _ => ?_
  extract_lets c written
  have hwritten : ∀ mode, Leaves (Dev.Has P R) (written mode) := by
    intro mode
    refine Leaves.bind fun _ _ => Leaves.bind fun _ _ => ?_
    dsimp only
    split
    · exact h.askedRecompute hd l
    · exact hd
  split
  · exact Leaves.bind fun _ _ => hwritten _
  · exact Leaves.bind fun _ _ => Leaves.bind fun _ _ => hwritten _

/-! ### Lane requests (R115 to R121) -/

omit h hd in
theorem laneOnly_leaves {Q : Dev → Prop} {f : Fin 4 → Except Status Answer} (hf : ∀ l, Leaves Q (f l)) :
    Leaves Q (laneOnly p >>= f) := Leaves.bind fun l _ => hf l

omit hd in
theorem Orderly.start (e : Env) (l : Fin 4) {w : World} (hw : P w) : P (World.start e w l) :=
  h.settling.askRecompute l (h.sequencing.deriving.deriveNext e l trivial
    (h.modLane l _ (by exact fun _ _ => LaneRec.ok_of_not_idle (by simp)) hw))

omit hd in
theorem Orderly.stop (e : Env) (l : Fin 4) {w : World} (hw : P w) : P (World.stop e w l) := by
  have h1 := h.settling.clearLaneCues e l
    (h.sequencing.deriving.disarm e l trivial (h.sequencing.leaveAir e l trivial true hw))
  have h2 := h.modLane l (fun r =>
    { r with operator := false, action := false, gate := false, gateDue := none, state := .idle, onAir := none, next := none })
    (fun _ _ _ => ⟨rfl, rfl, rfl, rfl, rfl, rfl⟩) h1
  exact h.settling.askRecompute l (h.setMonitor _ (h.settling.cleanWaiters l h2))

omit hd in
theorem Orderly.resume (e : Env) (l : Fin 4) {w : World} (hw : P w) : P (World.resume e w l) := by
  have h1 := h.sequencing.deriving.setState l trivial (h.modLane l (fun r => { r with operator := false })
    (fun _ hok hi => by
      obtain ⟨h1, h2, -, h4⟩ := hok hi
      exact ⟨h1, h2, rfl, h4⟩) hw)
  unfold World.resume
  dsimp only
  split
  · exact h.sequencing.testAuto trivial e h1
  · exact h1

theorem Orderly.startHandler : Leaves (Dev.Has P R) (startHandler d p) := by
  unfold Machine.startHandler
  exact Leaves.bind fun l _ => Leaves.bind fun _ _ => ⟨h.start _ l hd.1, hd.2⟩

theorem Orderly.stopHandler : Leaves (Dev.Has P R) (stopHandler d p) := by
  unfold Machine.stopHandler
  exact Leaves.bind fun l _ => Leaves.bind fun _ _ => ⟨h.stop _ l hd.1, hd.2⟩

theorem Orderly.takeHandler : Leaves (Dev.Has P R) (takeHandler d p) := by
  unfold Machine.takeHandler
  refine Leaves.bind fun q _ => Leaves.bind fun l _ => Leaves.bind fun _ _ => Leaves.bind fun _ hs => Leaves.bind fun _ _ =>
    Leaves.bind fun _ _ => Leaves.bind fun _ _ => ?_
  exact ⟨h.sequencing.take trivial _ (of_decide_eq_true (want_ok hs)) hd.1, hd.2⟩

theorem Orderly.holdHandler : Leaves (Dev.Has P R) (holdHandler d p) := by
  unfold Machine.holdHandler
  refine Leaves.bind fun l _ => Leaves.bind fun _ hs => ?_
  split
  · trivial
  · exact ⟨h.sequencing.setOperator trivial (of_decide_eq_true (want_ok hs)) hd.1, hd.2⟩

theorem Orderly.resumeHandler : Leaves (Dev.Has P R) (resumeHandler d p) := by
  unfold Machine.resumeHandler
  refine Leaves.bind fun l _ => Leaves.bind fun _ _ => ?_
  split
  · exact ⟨h.resume _ l hd.1, hd.2⟩
  · trivial

theorem Orderly.clearlaneHandler : Leaves (Dev.Has P R) (clearlaneHandler d p) := by
  unfold Machine.clearlaneHandler
  refine Leaves.bind fun l _ => Leaves.bind fun _ _ => ?_
  have h1 := h.sequencing.freeItems (d.world.store.laneKeys l) hd.1 fun _ _ _ _ => trivial
  have h2 := h.modLane l (fun r =>
    { r with cursor := none, operator := false, action := false, gate := false, gateDue := none, lastTake := none })
    (fun r hok hi => by
      obtain ⟨h1, h2, -⟩ := hok hi
      exact ⟨h1, h2, rfl, rfl, rfl, rfl⟩) h1
  exact h.noticed l _ ⟨h2, hd.2⟩

/-! ### MAP and SIDE (R155 to R157) -/

omit h hd in
theorem Working.remapLane (h : Working P) (e : Env) (n : Fin 64) (l : Fin 4) {w : World} (hw : P w) :
    P (World.remapLane e n w l) := by
  unfold World.remapLane
  refine Working.foldl (World.remapOnAir e l) (fun v ref hv => ?_) _ (Working.foldl
    (fun (w : World) (x : Nat × ElemRef × Element) => World.changeNext e l x.1 w (.retargeted x.2.1 x.2.2)) (fun _ x hv => h.changeNext e l x.1 _ hv) _ hw)
  have h1 := h.modElem ref Element.unload (fun _ => rfl) (h.dropLoad l ref hv)
  unfold World.remapOnAir
  dsimp only
  split
  · split
    · exact h.testCompleted e v l (h.fireLate e l _ h1)
    · exact h1
  · exact h1

theorem Orderly.writeEntry (n : Fin 64) (m : MapEntry) (hm : (d.world.map.get n).Ok → m.Ok) : (d.writeEntry n m).Has P R := by
  have h1 := h.entry n m hd.1 hm
  refine ⟨?_, hd.2⟩
  unfold Dev.writeEntry
  dsimp only [Dev.withWorld]
  split
  · exact Working.foldl _ (fun _ l hv => h.settling.remapLane _ n l hv) _ h1
  · exact h1

omit h hd in
theorem MapEntry.invalid_ok : MapEntry.invalid.Ok := by simp [MapEntry.Ok, MapEntry.invalid]

omit h hd in
/-- A MAP writes an entry without a claim, and so without waiters (R155). -/
theorem MapEntry.Ok.written {old m : MapEntry} (hok : old.Ok) (hfree : old.cls = .playout → old.claim = none)
    (hclaim : m.claim = old.claim) (hwaiters : m.waiters = old.waiters) : m.Ok := by
  obtain ⟨-, hnone, -, hgraphics, -⟩ := hok
  have hc : old.claim = none := by
    cases hcls : old.cls with
    | playout => exact hfree hcls
    | graphics => exact hgraphics hcls
  have hw := hnone hc
  simp [MapEntry.Ok, hclaim, hwaiters, hc, hw]

theorem Orderly.mapHandler : Leaves (Dev.Has P R) (mapHandler d p) := by
  unfold Machine.mapHandler
  refine Leaves.bind fun q _ => Leaves.bind fun n _ => ?_
  extract_lets old
  have hwrites : ∀ (hb : (!(decide (old.cls = .playout) && old.claim.isSome)) = true) {m : MapEntry}, m.claim = old.claim →
      m.waiters = old.waiters → (d.writeEntry n m).Has P R := by
    intro hb m hclaim hwaiters
    refine h.writeEntry hd n m fun hok => hok.written (fun hp => ?_) hclaim hwaiters
    simpa [old, hp] using hb
  dsimp only
  split
  · trivial
  · exact Leaves.bind fun _ _ => h.writeEntry hd n _ fun _ => MapEntry.invalid_ok
  · refine Leaves.bind fun _ _ => Leaves.bind fun _ _ => ?_
    split
    · exact Leaves.bind fun _ _ => Leaves.bind fun _ _ => Leaves.bind fun _ hb => Leaves.bind fun _ _ =>
        hwrites (want_ok hb) rfl rfl
    · exact Leaves.bind fun _ _ => Leaves.bind fun _ _ => Leaves.bind fun _ _ => Leaves.bind fun _ hb => Leaves.bind fun _ _ =>
        hwrites (want_ok hb) rfl rfl

omit h hd in
theorem MapEntry.Ok.active {m : MapEntry} (side : Side) (hok : m.Ok) : MapEntry.Ok { m with active := side } := hok

theorem Orderly.sideHandler : Leaves (Dev.Has P R) (sideHandler d p) := by
  unfold Machine.sideHandler
  refine Leaves.bind fun q _ => Leaves.bind fun n _ => Leaves.bind fun side _ => Leaves.bind fun _ _ => Leaves.bind fun t _ =>
    Leaves.bind fun _ _ => ?_
  have h1 : P (d.world.setEntry n { d.world.map.get n with active := side }) := h.entry n _ hd.1 (MapEntry.Ok.active side)
  split
  · trivial
  · have h2 : P (World.repoint d.env (d.world.setEntry n { d.world.map.get n with active := side }) n) :=
      h.settling.repoint d.env n h1
    exact Leaves.done (hd.withWorld h2)

/-! ### PORTEN and PORTRESET (R174, R175) -/

omit hd in
theorem Orderly.disablePort (e : Env) (q : Fin 8) {w : World} (hw : P w) : P (World.disablePort e w q) :=
  Working.foldl _ (fun _ _ hv => h.settling.answer e _ _ _ hv) _
    (h.settling.failMessages e _ (h.modPort q Port.disable (fun _ _ => Port.Ok.disable) hw))

theorem Orderly.portenHandler : Leaves (Dev.Has P R) (portenHandler d p) := by
  unfold Machine.portenHandler
  refine Leaves.bind fun q _ => Leaves.bind fun n _ => ?_
  dsimp only
  split
  · next hs => exact ⟨h.port n _ hd.1 fun hok => hok.enable hs, hd.2⟩
  · trivial
  · trivial
  · exact ⟨h.disablePort _ n hd.1, hd.2⟩

theorem Orderly.portresetHandler : Leaves (Dev.Has P R) (portresetHandler d p) := by
  unfold Machine.portresetHandler
  refine Leaves.bind fun q _ => Leaves.bind fun n _ => Leaves.bind fun _ _ => ⟨?_, hd.2⟩
  dsimp only [Dev.withWorld]
  split
  · exact h.settling.arbiter _ n (h.modPort n Port.recover (fun _ hok => hok.recover) hd.1)
  · exact h.modPort n _ (by exact fun _ hok => hok.of_eq rfl rfl rfl rfl rfl rfl) hd.1

/-! ### STATION, CALL and ANSWER (R180, R188, R189) -/

omit h hd in
theorem Working.sendStationIf (h : Working P) (b : Bool) (st : Fin 6) (kind : Byte) (fields : List Byte) {w : World} (hw : P w) :
    P (if b then w.sendStation st kind fields else w) := by
  split <;> [exact h.sendStation st kind fields hw; exact hw]

omit hd in
theorem Orderly.assignStation (st : Fin 6) (lane : Option (Fin 4)) {w : World} (hw : P w) : P (w.assignStation st lane) := by
  exact h.settling.sendStationIf _ _ _ _ (h.settling.sendStationIf _ _ _ _
    (h.modStation st (fun s => { s with lane, standby := none, waiting := [], go := none }) hw))

theorem Orderly.stationHandler : Leaves (Dev.Has P R) (stationHandler d p) := by
  unfold Machine.stationHandler
  refine Leaves.bind fun q _ => Leaves.bind fun st _ => ?_
  extract_lets written
  have hwritten : ∀ lane, Leaves (Dev.Has P R) (written lane) := by
    intro lane
    simp only [written]
    split
    · trivial
    · exact ⟨h.assignStation st lane hd.1, hd.2⟩
  split
  · exact Leaves.bind fun _ _ => hwritten _
  · exact Leaves.bind fun _ _ => hwritten _
  · exact Leaves.bind fun _ _ => Leaves.bind fun _ _ => hwritten _

theorem Orderly.callHandler : Leaves (Dev.Has P R) (callHandler d p) := by
  unfold Machine.callHandler
  refine Leaves.bind fun q _ => Leaves.bind fun st _ => ?_
  dsimp only
  split
  · trivial
  · refine ⟨?_, hd.2⟩
    exact h.settling.sendStationIf _ _ _ _ (h.modStation st _ hd.1)

theorem Orderly.answerHandler : Leaves (Dev.Has P R) (answerHandler d p) := by
  unfold Machine.answerHandler
  refine Leaves.bind fun q _ => Leaves.bind fun st _ => ?_
  dsimp only
  split
  · exact ⟨h.settling.sendStationIf _ _ _ _ (h.modStation st _ hd.1), hd.2⟩
  · trivial

end Requests

end Sys2Proof.Machine
end

section
/-! Labels and frame counts (R62, R63): the count that a day would have with no label dropped stands between them. -/
namespace Sys2Proof.Machine

-- One proof is checked at a time: the tests above leave little memory for proofs side by side.
set_option Elab.async false

/-- The place of a label among the labels of a day with none dropped (R62). -/
def labelPlace (nominal : Nat) (x : Label) : Nat :=
  x.hh * (3600 * nominal) + x.mm * (60 * nominal) + x.ss * nominal + x.ff

theorem Rate.reads_iff (r : Rate) (x : Label) : r.reads x = true ↔ x.hh < 24 ∧ x.mm < 60 ∧ x.ss < 60 ∧ x.ff < r.nominal := by
  simp [Rate.reads, and_assoc]

/-! ### Places and labels -/

theorem Rate.nominal_pos (r : Rate) : 0 < r.nominal := by induction r <;> decide

theorem Rate.dropped_lt (r : Rate) : r.dropped < r.nominal := by induction r <;> decide

theorem Rate.dropped_le (r : Rate) : r.dropped ≤ r.nominal := r.dropped_lt.le

/-- A day is 144 blocks of ten minutes (R62). -/
theorem Rate.day_eq (r : Rate) : r.day = 144 * (600 * r.nominal - 9 * r.dropped) := by induction r <;> rfl

/-- A place is its seconds of the day, each of the nominal frames, and its frame. -/
theorem labelPlace_eq (nominal : Nat) (x : Label) :
    labelPlace nominal x = x.ff + nominal * (x.ss + 60 * (x.mm + 60 * x.hh)) := by
  rw [labelPlace, Nat.mul_add, Nat.mul_left_comm nominal, Nat.mul_add nominal, Nat.mul_left_comm nominal, Nat.mul_left_comm x.hh,
    Nat.mul_left_comm x.mm, Nat.mul_comm x.hh, Nat.mul_comm x.mm, Nat.mul_comm x.ss]
  omega

theorem div_minute (t nominal : Nat) : t / (60 * nominal) = t / nominal / 60 := by
  rw [Nat.div_div_eq_div_mul, Nat.mul_comm]

theorem div_hour (t nominal : Nat) : t / (3600 * nominal) = t / nominal / 60 / 60 := by
  rw [Nat.div_div_eq_div_mul, Nat.div_div_eq_div_mul, Nat.mul_comm]

theorem place_labelOfCount (r : Rate) (t : Nat) : labelPlace r.nominal (labelOfCount r.nominal t) = t := by
  simp only [labelPlace_eq, labelOfCount, div_minute, div_hour, Nat.mod_add_div]

theorem labelOfCount_reads (r : Rate) {t : Nat} (ht : t < 86400 * r.nominal) : r.reads (labelOfCount r.nominal t) = true := by
  rw [Rate.reads_iff]
  have hday : t / r.nominal < 86400 := Nat.div_lt_of_lt_mul (by rwa [Nat.mul_comm])
  refine ⟨?_, Nat.mod_lt _ (by decide), Nat.mod_lt _ (by decide), Nat.mod_lt _ r.nominal_pos⟩
  simp only [labelOfCount, div_hour]
  exact Nat.div_lt_of_lt_mul (Nat.div_lt_of_lt_mul hday)

/-- The seconds and the frame of a place that is made of them. -/
theorem div_mod_of_place {nominal s f : Nat} (hf : f < nominal) :
    (f + nominal * s) / nominal = s ∧ (f + nominal * s) % nominal = f :=
  (Nat.div_mod_unique (by omega)).2 ⟨rfl, hf⟩

theorem labelOfCount_place (r : Rate) {x : Label} (hx : r.reads x = true) : labelOfCount r.nominal (labelPlace r.nominal x) = x := by
  obtain ⟨_, hmm, hss, hff⟩ := (Rate.reads_iff r x).1 hx
  obtain ⟨hseconds, hframe⟩ := div_mod_of_place (s := x.ss + 60 * (x.mm + 60 * x.hh)) hff
  obtain ⟨hminutes, hsecond⟩ := div_mod_of_place (s := x.mm + 60 * x.hh) hss
  obtain ⟨hhour, hminute⟩ := div_mod_of_place (s := x.hh) hmm
  simp only [labelPlace_eq, labelOfCount, div_minute, div_hour, hseconds, hframe, hminutes, hsecond, hhour, hminute]

/-- The minute of the day of a label, by its place. -/
theorem labelPlace_minute (r : Rate) {x : Label} (hx : r.reads x = true) :
    60 * x.hh + x.mm = labelPlace r.nominal x / (60 * r.nominal) := by
  obtain ⟨_, _, hss, hff⟩ := (Rate.reads_iff r x).1 hx
  rw [labelPlace_eq, div_minute, (div_mod_of_place hff).1, (div_mod_of_place hss).1, Nat.add_comm]

/-- The frame of its minute that a label names. -/
theorem labelPlace_mod (r : Rate) {x : Label} (hx : r.reads x = true) :
    labelPlace r.nominal x % (60 * r.nominal) = x.ff + r.nominal * x.ss := by
  obtain ⟨_, _, hss, hff⟩ := (Rate.reads_iff r x).1 hx
  obtain ⟨hseconds, hframe⟩ := div_mod_of_place (s := x.ss + 60 * (x.mm + 60 * x.hh)) hff
  rw [labelPlace_eq, Nat.mul_comm 60 r.nominal, Nat.mod_mul, hseconds, hframe, (div_mod_of_place hss).2]

/-- A label is dropped where its place is among the first of a minute that is no tenth (R62). -/
theorem Rate.isDropped_iff (r : Rate) {x : Label} (hx : r.reads x = true) :
    r.isDropped x = true ↔
      labelPlace r.nominal x % (60 * r.nominal) < r.dropped ∧ labelPlace r.nominal x / (60 * r.nominal) % 10 ≠ 0 := by
  have hfirst : x.ff + r.nominal * x.ss < r.dropped ↔ x.ss = 0 ∧ x.ff < r.dropped := by
    have hle := r.dropped_le
    rcases Nat.eq_zero_or_pos x.ss with hss | hss
    · simp [hss]
    · have := Nat.le_mul_of_pos_right r.nominal hss
      omega
  rw [labelPlace_mod r hx, ← labelPlace_minute r hx, hfirst, and_right_comm]
  simp only [Rate.isDropped, Bool.and_eq_true, decide_eq_true_eq]

theorem Rate.countOf_eq (r : Rate) {x : Label} (hx : r.reads x = true) :
    r.countOf x = labelPlace r.nominal x -
      r.dropped * (labelPlace r.nominal x / (60 * r.nominal) - labelPlace r.nominal x / (60 * r.nominal) / 10) := by
  rw [Rate.countOf, labelPlace_minute r hx]
  rfl

/-! ### Counts and places -/

/-- The place of the label of a frame count (R62). -/
def Rate.placeOf (r : Rate) (n : Nat) : Nat := if r.dropped = 0 then n else undroppedCount r.nominal r.dropped n

theorem Rate.label_eq (r : Rate) (n : Nat) : r.label n = labelOfCount r.nominal (r.placeOf n) := rfl

theorem Rate.placeOf_eq (r : Rate) (n : Nat) : r.placeOf n = undroppedCount r.nominal r.dropped n := by
  unfold Rate.placeOf
  split
  · next hd => simp [undroppedCount, hd]
  · rfl

/-! A frame count is `q` blocks of ten minutes, then `j` minutes of `s` frames, then `f` frames: of the block's first minute, which
drops no label, or past the dropped labels of another. Its place is the same with each minute of `s + d` labels. -/

/-- A place is its count and the dropped labels before it: `d` in each minute, but in the first of a block. -/
theorem place_eq (s d q j f : Nat) : f + (s + d) * (j + 10 * q) = f + s * j + (10 * s + d) * q + d * (j + 9 * q) := by
  have hs : s * (10 * q) = 10 * s * q := by rw [Nat.mul_left_comm, Nat.mul_assoc]
  have hd : d * (10 * q) = d * q + d * (9 * q) := by rw [← Nat.mul_add, Nat.add_comm, ← Nat.succ_mul]
  rw [Nat.add_mul s d, Nat.mul_add s, Nat.mul_add d, Nat.add_mul (10 * s), Nat.mul_add d j (9 * q), hs, hd]
  omega

/-- The frames of a block of ten minutes. -/
theorem tenMinutes_eq {nominal s d : Nat} (hs : 60 * nominal = s + d) : 600 * nominal - 9 * d = 10 * s + d := by omega

theorem block_lt {s d j f : Nat} (hj : j < 10) (hf : f < s + d) : f + s * j < 10 * s + d := by
  have := Nat.mul_le_mul_left s (Nat.le_of_lt_succ hj)
  omega

/-- The place of a count by its blocks, its minutes and its frames. -/
theorem undroppedCount_block {nominal d s q j f : Nat} (hs : 60 * nominal = s + d) (hj : j < 10) (hf : f < s + d)
    (hd : j ≠ 0 → d ≤ f) :
    undroppedCount nominal d (f + s * j + (10 * s + d) * q) = f + (s + d) * (j + 10 * q) := by
  obtain ⟨hdiv, hmod⟩ := div_mod_of_place (s := q) (block_lt hj hf)
  simp only [undroppedCount, tenMinutes_eq hs, hs, Nat.add_sub_cancel, hdiv, hmod, place_eq]
  split
  · next hlt =>
    have hj0 : j = 0 := not_imp_comm.1 hd fun h => Nat.not_lt.2 (h.trans (Nat.le_add_right ..)) hlt
    rw [hj0, Nat.zero_add, Nat.mul_left_comm, Nat.mul_assoc]
  · next hlt =>
    have hle : d ≤ f := by
      by_cases hj0 : j = 0
      · rw [hj0, Nat.mul_zero] at hlt
        exact Nat.not_lt.1 hlt
      · exact hd hj0
    rw [Nat.sub_add_comm hle, (div_mod_of_place (Nat.sub_lt_right_of_lt_add hle hf)).1, Nat.mul_add d, Nat.mul_assoc 9,
      Nat.mul_left_comm d 9, Nat.add_comm (d * j), Nat.add_assoc]

/-- Every count is made of blocks, minutes and frames so. -/
theorem exists_block {s d : Nat} (hpos : 0 < s) (n : Nat) :
    ∃ q j f, q = n / (10 * s + d) ∧ n = f + s * j + (10 * s + d) * q ∧ j < 10 ∧ f < s + d ∧ (j ≠ 0 → d ≤ f) := by
  have hlt : n % (10 * s + d) < 10 * s + d := Nat.mod_lt _ (by omega)
  rcases Nat.lt_or_ge (n % (10 * s + d)) d with hfirst | hpast
  · refine ⟨_, 0, n % (10 * s + d), rfl, ?_, by decide, hfirst.trans_le (Nat.le_add_left ..), fun h => absurd rfl h⟩
    rw [Nat.mul_zero, Nat.add_zero, Nat.mod_add_div]
  · have he : n % (10 * s + d) - d < s * 10 := Nat.mul_comm 10 s ▸ Nat.sub_lt_right_of_lt_add hpast hlt
    refine ⟨_, (n % (10 * s + d) - d) / s, (n % (10 * s + d) - d) % s + d, rfl, ?_, Nat.div_lt_of_lt_mul he,
      Nat.add_lt_add_right (Nat.mod_lt _ hpos) d, fun _ => Nat.le_add_left ..⟩
    rw [Nat.add_right_comm _ d, Nat.mod_add_div, Nat.sub_add_cancel hpast, Nat.mod_add_div]

/-- The frames of a minute are its labels but the dropped ones. -/
theorem Rate.exists_short (r : Rate) : ∃ s, 60 * r.nominal = s + r.dropped ∧ 0 < s := by
  have hlt : r.dropped < 60 * r.nominal := r.dropped_lt.trans_le (Nat.le_mul_of_pos_left _ (by decide))
  exact ⟨60 * r.nominal - r.dropped, (Nat.sub_add_cancel hlt.le).symm, Nat.sub_pos_of_lt hlt⟩

/-- The count of a place: what its minutes have dropped, taken off. -/
theorem place_sub_dropped (s d q j f : Nat) : f + (s + d) * (j + 10 * q) - d * (j + 10 * q - q) = f + s * j + (10 * s + d) * q := by
  have hnine : j + 10 * q - q = j + 9 * q := by omega
  rw [hnine]
  exact Nat.sub_eq_of_eq_add (place_eq ..)

/-- A count is of the day by its blocks, and a place by its minutes. -/
theorem Rate.lt_day_iff (r : Rate) {s n : Nat} (hs : 60 * r.nominal = s + r.dropped) (hpos : 0 < s) :
    n < r.day ↔ n / (10 * s + r.dropped) < 144 := by
  rw [r.day_eq, tenMinutes_eq hs, Nat.div_lt_iff_lt_mul (by omega)]

theorem Rate.lt_places_iff (r : Rate) {t : Nat} : t < 86400 * r.nominal ↔ t / (60 * r.nominal) < 1440 := by
  rw [Nat.div_lt_iff_lt_mul (Nat.mul_pos (by decide) r.nominal_pos), ← Nat.mul_assoc]

/-- The place of a frame count is of the day, is no dropped label's, and counts back to it. -/
theorem Rate.placeOf_spec (r : Rate) {n : Nat} (hn : n < r.day) :
    r.placeOf n < 86400 * r.nominal ∧
    ¬(r.placeOf n % (60 * r.nominal) < r.dropped ∧ r.placeOf n / (60 * r.nominal) % 10 ≠ 0) ∧
    r.placeOf n - r.dropped * (r.placeOf n / (60 * r.nominal) - r.placeOf n / (60 * r.nominal) / 10) = n := by
  obtain ⟨s, hs, hpos⟩ := r.exists_short
  obtain ⟨q, j, f, hq, hblock, hj, hf, hd⟩ := exists_block (d := r.dropped) hpos n
  obtain ⟨hdiv, hmod⟩ := div_mod_of_place (s := j + 10 * q) hf
  obtain ⟨hblocks, hminute⟩ := div_mod_of_place (s := q) hj
  rw [r.lt_day_iff hs hpos, ← hq] at hn
  rw [r.lt_places_iff, r.placeOf_eq, hblock, undroppedCount_block hs hj hf hd, hs, hdiv, hmod, hblocks, hminute, place_sub_dropped]
  exact ⟨by omega, fun hdrop => Nat.not_lt.2 (hd hdrop.2) hdrop.1, rfl⟩

/-- A place of the day that is no dropped label's is the place of its count. -/
theorem Rate.placeOf_count (r : Rate) {t n : Nat} (ht : t < 86400 * r.nominal)
    (hd : ¬(t % (60 * r.nominal) < r.dropped ∧ t / (60 * r.nominal) % 10 ≠ 0))
    (hn : n = t - r.dropped * (t / (60 * r.nominal) - t / (60 * r.nominal) / 10)) : n < r.day ∧ r.placeOf n = t := by
  obtain ⟨s, hs, hpos⟩ := r.exists_short
  have hf : t % (60 * r.nominal) < 60 * r.nominal := Nat.mod_lt _ (Nat.mul_pos (by decide) r.nominal_pos)
  have hj : t / (60 * r.nominal) % 10 < 10 := Nat.mod_lt _ (by decide)
  have htf := Nat.mod_add_div t (60 * r.nominal)
  have hM := Nat.mod_add_div (t / (60 * r.nominal)) 10
  have hq : t / (60 * r.nominal) / 10 < 144 := Nat.div_lt_of_lt_mul (r.lt_places_iff.1 ht)
  rw [hs] at hd hn hf hj htf hM hq
  generalize t % (s + r.dropped) = f at hd hf htf
  generalize t / (s + r.dropped) / 10 = q at hn hM hq
  generalize t / (s + r.dropped) % 10 = j at hd hj hM
  rw [← hM] at hn htf
  rw [← htf, place_sub_dropped] at hn
  rw [r.lt_day_iff hs hpos, r.placeOf_eq, hn, (div_mod_of_place (block_lt hj hf)).1,
    undroppedCount_block hs hj hf fun h => Nat.not_lt.1 fun hlt => hd ⟨hlt, h⟩]
  exact ⟨hq, htf⟩

/-! ### The two directions -/

theorem Rate.clampLabel_of_not_dropped {r : Rate} {x : Label} (hx : r.isDropped x = false) : r.clampLabel x = x := by
  simp [Rate.clampLabel, hx]

/-- A label read is taken as one that is read and not dropped (R63). -/
theorem Rate.clampLabel_reads {r : Rate} {x : Label} (hx : r.reads x = true) :
    r.reads (r.clampLabel x) = true ∧ r.isDropped (r.clampLabel x) = false := by
  rw [Rate.reads_iff] at hx ⊢
  unfold Rate.clampLabel
  split
  · obtain ⟨hhh, hmm, hss, -⟩ := hx
    exact ⟨⟨hhh, hmm, hss, r.dropped_lt⟩, by simp [Rate.isDropped]⟩
  · next hd => exact ⟨hx, Bool.eq_false_iff.2 hd⟩

theorem Rate.label_countOf {r : Rate} {x : Label} (hx : r.reads x = true) (hd : r.isDropped x = false) :
    r.countOf x < r.day ∧ r.label (r.countOf x) = x := by
  have hday : labelPlace r.nominal x < 86400 * r.nominal := by
    obtain ⟨hhh, hmm, hss, hff⟩ := (Rate.reads_iff r x).1 hx
    rw [labelPlace_eq]
    have := Nat.mul_le_mul_left r.nominal (show x.ss + 60 * (x.mm + 60 * x.hh) ≤ 86399 by omega)
    omega
  have hnot := mt (r.isDropped_iff hx).2 (by simp [hd])
  obtain ⟨hlt, hplace⟩ := r.placeOf_count hday hnot (r.countOf_eq hx)
  rw [r.label_eq, hplace]
  exact ⟨hlt, labelOfCount_place r hx⟩

theorem Rate.label_spec {r : Rate} {n : Nat} (hn : n < r.day) :
    r.reads (r.label n) = true ∧ r.isDropped (r.label n) = false ∧ r.countOf (r.label n) = n := by
  obtain ⟨hday, hnot, hcount⟩ := r.placeOf_spec hn
  have hreads := labelOfCount_reads r hday
  have hplace := place_labelOfCount r (r.placeOf n)
  refine ⟨hreads, ?_, ?_⟩
  · rw [Bool.eq_false_iff]
    intro hdrop
    rw [r.label_eq, r.isDropped_iff hreads, hplace] at hdrop
    exact hnot hdrop
  · rw [r.label_eq, r.countOf_eq hreads, hplace, hcount]

/-- A count read is of the day (R63). -/
theorem Rate.read_lt {r : Rate} {x : Label} {n : Nat} (hn : r.read x = some n) : n < r.day := by
  unfold Rate.read at hn
  split at hn
  · next hx =>
    cases hn
    exact (Rate.label_countOf (Rate.clampLabel_reads hx).1 (Rate.clampLabel_reads hx).2).1
  · cases hn

/-- A label carried to another rate is a label of that rate (R61). -/
theorem convertLabel_reads {old new : Rate} {x : Label} (hx : old.reads x = true) :
    new.reads (convertLabel old new x) = true ∧ new.isDropped (convertLabel old new x) = false := by
  refine Rate.clampLabel_reads ?_
  rw [Rate.reads_iff] at hx ⊢
  obtain ⟨hhh, hmm, hss, hff⟩ := hx
  exact ⟨hhh, hmm, hss, Nat.div_lt_of_lt_mul (Nat.mul_lt_mul_of_pos_right hff new.nominal_pos)⟩

/-- Settles O48: a count's place is no dropped label's, and a place that is none is the place of its count. -/
theorem labelsAndFrameCountsNameEachOther : Obligations.LabelsAndFrameCountsNameEachOther := by
  refine fun rate => ⟨fun n hn => ?_, fun x hx => ?_⟩
  · obtain ⟨hreads, hdrop, hcount⟩ := Rate.label_spec hn
    exact ⟨hreads, hdrop, by simp [Rate.read, hreads, Rate.clampLabel_of_not_dropped hdrop, hcount]⟩
  · obtain ⟨hreads, hdrop⟩ := Rate.clampLabel_reads hx
    obtain ⟨hday, hlabel⟩ := Rate.label_countOf hreads hdrop
    exact ⟨_, by simp [Rate.read, hx], hday, hlabel⟩

end Sys2Proof.Machine
end

section
/-! The Reference Unit in good order (R55 to R60, R65, R67): what the requests, the sources of frames and the resets leave of it. -/
namespace Sys2Proof.Machine

-- One proof is checked at a time: the tests above leave little memory for proofs side by side.
set_option Elab.async false

theorem Rate.day_pos (r : Rate) : 0 < r.day := by induction r <;> decide

theorem RefUnit.reset_ok : RefUnit.reset.Ok := by
  simp [RefUnit.Ok, RefUnit.reset, Rate.day]

theorem RefUnit.Ok.warm {r : RefUnit} (h : r.Ok) : r.warm.Ok := by
  obtain ⟨h1, h2, h3, -, h5⟩ := h
  exact ⟨h1, h2, h3, Nat.zero_le _, h5⟩

/-! ### Requests (R61, R67, R68) -/

theorem RefUnit.Ok.toRate {r : RefUnit} (h : r.Ok) (rate : Rate) : (r.toRate rate).Ok := by
  obtain ⟨h1, h2, h3, -⟩ := h
  have hlabel := convertLabel_reads (new := rate) (Rate.label_spec h1).1
  exact ⟨(Rate.label_countOf hlabel.1 hlabel.2).1, h2, h3, Nat.zero_le _, by simp [RefUnit.toRate], by simp [RefUnit.toRate],
    by simp [RefUnit.toRate], by simp [RefUnit.toRate], by simp [RefUnit.toRate], by simp [RefUnit.toRate]⟩

theorem RefUnit.Ok.disable {r : RefUnit} (h : r.Ok) : r.disable.Ok := by
  obtain ⟨h1, h2, h3, h4, -, h6, -⟩ := h
  refine ⟨h1, h2, h3, ?_, by simp [RefUnit.disable], ?_, by simp [RefUnit.disable], by simp [RefUnit.disable],
    by simp [RefUnit.disable], by simp [RefUnit.disable]⟩
  · simp only [RefUnit.disable]
    split <;> [exact Nat.zero_le _; exact h4]
  · simp only [RefUnit.disable]
    split
    · simp
    · next hs => simp [h6.2 hs]

theorem RefUnit.Ok.configure {r : RefUnit} (h : r.Ok) (q : RefcfgReq) : (r.configure q).Ok := by
  have h1 : (if r.enabled && !q.enable then r.disable else { r with enabled := q.enable }).Ok := by
    split
    · exact h.disable
    · next hc =>
      obtain ⟨h1, h2, h3, h4, h5, h6, h7, h8, h9, h10⟩ := h
      refine ⟨h1, h2, h3, h4, h5, h6, h7, h8, h9, fun he => h10 ?_⟩
      have he : q.enable = false := he
      simpa [he] using hc
  unfold RefUnit.configure
  generalize (if r.enabled && !q.enable then r.disable else { r with enabled := q.enable }) = r1 at h1
  obtain ⟨h1, -, -, h4, h5⟩ := h1
  refine ⟨h1, by dsimp only; omega, by dsimp only; omega, ?_, h5⟩
  dsimp only
  split <;> [exact h4; exact Nat.zero_le _]

theorem refKept_ok : RefKept RefUnit.Ok where
  rate x h := h.toRate x
  configure q h := h.configure q
  label _ h := h

/-! ### Frame arrivals (R53, R65, R66, R68) -/

theorem RefUnit.pendingCount_lt (r : RefUnit) (l : Label) : r.pendingCount l < r.rate.day := by
  unfold RefUnit.pendingCount
  split
  · next n hn => exact Rate.read_lt hn
  · exact Nat.mod_lt _ r.rate.day_pos

theorem RefUnit.Ok.withClock {r : RefUnit} (h : r.Ok) {fc : Fc} {t mismatch : Nat} {pendingLabel : Option Label}
    (ht : t < r.rate.day) (hm : mismatch ≤ 15) : RefUnit.Ok { r with fc, t, mismatch, pendingLabel } := by
  obtain ⟨-, h2, h3, -, h5⟩ := h
  exact ⟨ht, h2, h3, hm, h5⟩

theorem RefUnit.Ok.checkLabel {r : RefUnit} (h : r.Ok) (label : Option Label) : (r.checkLabel label).ref.Ok := by
  unfold RefUnit.checkLabel
  split
  · exact h
  · next n hn =>
    have hday : n < r.rate.day := by
      split at hn
      · obtain ⟨x, -, hx⟩ := Option.bind_eq_some_iff.1 hn
        exact Rate.read_lt hx
      · cases hn
    split
    · exact h.withClock h.1 (Nat.zero_le _)
    · split
      · exact h.withClock hday (Nat.zero_le _)
      · exact h.withClock h.1 (Nat.min_le_left _ _)

theorem RefUnit.Ok.arrive {r : RefUnit} (h : r.Ok) (label : Option Label) : (r.arrive label).ref.Ok := by
  unfold RefUnit.arrive
  dsimp only
  split
  · next l _ => exact h.withClock (r.pendingCount_lt l) (Nat.zero_le _)
  · exact RefUnit.Ok.checkLabel (h.withClock (Nat.mod_lt _ r.rate.day_pos) h.2.2.2.1) label

/-! ### The sources of frames (R55 to R58) -/

theorem RefUnit.Ok.acceptPulse {r : RefUnit} (h : r.Ok) (he : r.enabled = true) : r.acceptPulse.1.Ok := by
  obtain ⟨h1, h2, h3, h4, h5, h6, h7, h8, h9, h10⟩ := h
  unfold RefUnit.acceptPulse
  cases hs : r.state with
  | freeRun =>
    exact ⟨h1, h2, h3, h4, by simp, by simpa [hs] using h6, by simp, by simp, by simp, by simp [he]⟩
  | acquiring =>
    dsimp only
    split
    · exact ⟨h1, h2, h3, h4, by simp, by simpa [hs] using h6, by simp, fun _ => by dsimp only; omega, by simp,
        by simp [he]⟩
    · exact ⟨h1, h2, h3, h4, by simp, by simp, by simp, by simp, by simp, by simp [he]⟩
  | locked =>
    rw [hs] at h6 h7 h8 h9 h10
    exact ⟨h1, h2, h3, h4, by simp, h6, h7, h8, h9, h10⟩

theorem RefUnit.Ok.loseAcquired {r : RefUnit} (h : r.Ok) (hs : r.state = .acquiring) : RefUnit.Ok { r with acquired := 0 } := by
  obtain ⟨h1, h2, h3, h4, h5, h6, -, -, -, h10⟩ := h
  exact ⟨h1, h2, h3, h4, h5, h6, by simp, by simp, by simp [hs], h10⟩

theorem RefUnit.Ok.missPulse {r : RefUnit} (h : r.Ok) : r.missPulse.1.Ok := by
  obtain ⟨h1, h2, h3, h4, -, h6, -⟩ := h
  unfold RefUnit.missPulse
  dsimp only
  split
  · exact ⟨h1, h2, h3, Nat.zero_le _, by simp, by simp, by simp, by simp, by simp, by simp⟩
  · next hs => exact ⟨h1, h2, h3, h4, by simp, by simp [h6.2 hs], by simp, by simp, by simp, by simp⟩

theorem RefUnit.Ok.ownExpiry {r : RefUnit} (h : r.Ok) (hi : r.internal.isSome) :
    RefUnit.Ok { r with internal := some .ownExpiry } := by
  obtain ⟨h1, h2, h3, h4, h5, h6, h7⟩ := h
  exact ⟨h1, h2, h3, h4, h5, by simpa [hi] using h6, h7⟩

end Sys2Proof.Machine
end

section
/-! The requests as one: the handler that each kind has, and what a service leaves of the part. -/
namespace Sys2Proof.Machine

-- One proof is checked at a time: the tests above leave little memory for proofs side by side.
set_option Elab.async false

/-- The handler of the request that a command serves. -/
def handlerOf : Instr → Handler
  | .insert => insertHandler
  | .amend => amendHandler
  | .move => moveHandler
  | .float => floatHandler
  | .restore => restoreHandler
  | .kill => killHandler
  | .retire => retireHandler
  | .addel => addelHandler
  | .setel => setelHandler
  | .delel => delelHandler
  | .stamp => stampHandler
  | .scan => scanHandler
  | .getitem => getitemHandler
  | .getel => getelHandler
  | .list => listHandler
  | .timing => timingHandler
  | .rate => rateHandler
  | .refcfg => refcfgHandler
  | .clockset => clocksetHandler
  | .clockread => clockreadHandler
  | .hardout => hardoutHandler
  | .subst => substHandler
  | .start => startHandler
  | .stop => stopHandler
  | .take => takeHandler
  | .hold => holdHandler
  | .resume => resumeHandler
  | .lanecfg => lanecfgHandler
  | .clearlane => clearlaneHandler
  | .map => mapHandler
  | .side => sideHandler
  | .portcfg => portcfgHandler
  | .porten => portenHandler
  | .portreset => portresetHandler
  | .station => stationHandler
  | .call => callHandler
  | .answer => answerHandler
  | .thresh => threshHandler
  | .actions => actionsHandler
  | .condread => condreadHandler
  | .attncfg => attncfgHandler
  | _ => fun _ _ => .error .unknown

/-- What a command that is no request does, begun with nothing driven (R206): the other commands are all of this form. -/
def workOf : Instr → State → State
  | .powerOnReset => State.powerOn
  | .warmReset => State.warm
  | .statusTransaction code further => State.transaction (State.readStatus code further)
  | .writeTransaction bytes => State.transaction (State.writeRequest bytes)
  | .readTransaction clocked => State.transaction (State.readResponse clocked)
  | .unknownRequest => State.serveUnknown
  | .attnPulseTimer => State.pulseTimer
  | .internalSourceExpiry => State.sourceExpiry
  | .referencePulse since label => State.pulse since label
  | .missingPulseTimer => State.missPulse
  | .panelTake lane => State.panelTake lane
  | .panelHold lane => State.panelHold lane
  | .gateTimeout lane => State.gateTest lane
  | .lastTakeClear lane => State.lastTakeTest lane
  | .cueFrameReceived port bytes => State.receive port bytes
  | .ack port => State.takeAck port
  | .nak port => State.takeNak port
  | .endNotice port => State.takeEnd port
  | .receivedMessageDiscard port => State.takeOther port
  | .ackTimeout port => State.timeoutTest port
  | .probeTimer port => State.probeTest port
  | .alive station => State.event (fun _ w => w.hear station)
  | .ready station => State.event (fun e w => World.stationReady e (w.hear station) station)
  | .stationHold station => State.event (fun e w => World.stationHold e (w.hear station) station)
  | .stationCall station => State.event (fun e w => World.callHeard e (w.hear station) station)
  | .stationFrameDiscard station bytes => State.stationFrame station bytes
  | .stationAbsent station => State.absentTest station
  | .panelLineRelease lane line => fun s => { s with pins := s.pins.line lane line false }
  | .resetNRelease => State.release
  | _ => id

/-- A command serves its request by the handler, or does its work. -/
theorem exec_eq (c : Instr) (s : State) :
    exec c s = (requestKind c).elim (s.run (workOf c)) (fun k => request k (handlerOf c) s) := by
  induction c <;> rfl

theorem exec_request {c : Instr} {k : Byte} (hc : requestKind c = some k) (s : State) : exec c s = request k (handlerOf c) s := by
  rw [exec_eq, hc]
  rfl

theorem exec_work {c : Instr} (hc : requestKind c = none) (s : State) : exec c s = s.run (workOf c) := by
  rw [exec_eq, hc]
  rfl

/-- What every request's handler leaves of an orderly property, and of one that the requests keep of the Reference Unit. -/
theorem Orderly.handlerOf {P : World → Prop} {R : RefUnit → Prop} (h : Orderly P) (hr : RefKept R) {d : Dev} (hd : d.Has P R)
    (p : List Byte) (c : Instr) : Leaves (Dev.Has P R) (handlerOf c d p) := by
  induction c with
  | insert => exact h.insertHandler hd p
  | amend => exact h.amendHandler hd p
  | move => exact h.moveHandler hd p
  | float => exact h.floatHandler hd p
  | restore => exact h.restoreHandler hd p
  | kill => exact h.killHandler hd p
  | retire => exact h.retireHandler hd p
  | addel => exact h.addelHandler hd p
  | setel => exact h.setelHandler hd p
  | delel => exact h.delelHandler hd p
  | stamp => exact h.stampHandler hd p
  | scan => exact Leaves.scanHandler d p
  | getitem => exact Leaves.getitemHandler d p
  | getel => exact Leaves.getelHandler d p
  | list => exact Leaves.listHandler d p
  | timing => exact Leaves.timingHandler d p
  | rate => exact h.rateHandler p hr hd
  | refcfg => exact RefKept.refcfgHandler hd p hr
  | clockset => exact RefKept.clocksetHandler hd p hr
  | clockread => exact Leaves.clockreadHandler d p
  | hardout => exact h.hardoutHandler hd p
  | subst => exact h.substHandler hd p
  | start => exact h.startHandler hd p
  | stop => exact h.stopHandler hd p
  | take => exact h.takeHandler hd p
  | hold => exact h.holdHandler hd p
  | resume => exact h.resumeHandler hd p
  | lanecfg => exact h.lanecfgHandler hd p
  | clearlane => exact h.clearlaneHandler hd p
  | map => exact h.mapHandler hd p
  | side => exact h.sideHandler hd p
  | portcfg => exact hd.portcfgHandler p
  | porten => exact h.portenHandler hd p
  | portreset => exact h.portresetHandler hd p
  | station => exact h.stationHandler hd p
  | call => exact h.callHandler hd p
  | answer => exact h.answerHandler hd p
  | thresh => exact hd.threshHandler p
  | actions => exact hd.actionsHandler p
  | condread => exact h.condreadHandler hd p
  | attncfg => exact h.attncfgHandler hd p
  | _ => trivial

/-- Nothing driven yet is no part of an orderly property. -/
theorem Orderly.begun {P : World → Prop} {R : RefUnit → Prop} (h : Orderly P) {s : State} (hs : s.dev.Has P R) :
    s.begun.Has P R := ⟨h.rest hs.1 rfl rfl rfl rfl, hs.2⟩

theorem Orderly.drivePulse {P : World → Prop} {R : RefUnit → Prop} (h : Orderly P) {s : State} (hs : s.dev.Has P R) :
    s.drivePulse.dev.Has P R :=
  ⟨h.rest hs.1 (by simp) (by simp) (by simp) (by simp), by rw [State.drivePulse_env]; exact hs.2⟩

/-- What a request leaves of the part and of the queues: the requests are no more, the responses at most one more. -/
theorem request_keeps {Q : Dev → Prop} {k : Byte} {x : Handler} {s t : State} (hrun : request k x s = .next t)
    (hbegun : Q s.begun) (hx : ∀ p, Leaves Q (x s.begun p)) (hsettle : ∀ d, Q d → Q d.settle)
    (hpulse : ∀ s : State, Q s.dev → Q s.drivePulse.dev) : Q t.dev := by
  have hreplied : ∀ {rest tag d st p}, Q d → Q (s.replied rest tag d st p).dev := fun hd => hpulse _ hd
  rcases request_cases s k x with hq | ⟨r, rest, -, -, -, hq⟩
  · rw [hq] at hrun; cases hrun
    exact hpulse _ hbegun
  · rcases hq with ⟨-, hq⟩ | ⟨-, hq⟩ <;> rw [hq] at hrun <;> cases hrun
    · exact hreplied hbegun
    · exact hreplied ((hx _).finish hbegun hsettle)

end Sys2Proof.Machine
end

section
/-! Every command answers next, and what it leaves of an orderly property, of the Reference Unit and of the queues: the invariants. -/
namespace Sys2Proof.Machine

-- One proof is checked at a time: the tests above leave little memory for proofs side by side.
set_option Elab.async false

theorem State.run_eq {f : State → State} {s t : State} (h : s.run f = .next t) : t = (f s.quiet).drivePulse := by
  cases h; rfl

/-! ### The commands that are no requests -/

theorem Orderly.takeThirdMiss {P : World → Prop} (h : Orderly P) (st : Fin 6) {w : World} (hw : P w) : P (w.takeThirdMiss st) :=
  h.modStation st _ hw

theorem Orderly.stepIn {P : World → Prop} (h : Orderly P) (st : Fin 6) {w : World} (hw : P w) : P (w.stepIn st) := by
  unfold World.stepIn
  split
  · exact h.settling.sendStation _ _ _ (h.settling.sendStation _ _ _ (h.settling.sendStation _ _ _ hw))
  · exact hw

theorem Orderly.warm {P : World → Prop} (h : Orderly P) {d : Dev} (hd : ∀ fc, P (World.warm fc d.world)) : P d.warm.world := by
  have h1 : P ((places 6).foldl World.stepIn (World.warm d.env.ref.warm.fc d.world)) :=
    Working.foldl _ (fun _ st hv => h.stepIn st hv) _ (hd _)
  rw [Dev.warm, Dev.settle_world]
  dsimp only
  exact h.settling.settle _ h1

/-- Nothing of the world is asked of it. -/
theorem orderly_true : Orderly (fun _ => True) where
  store _ _ _ := trivial
  lane _ _ _ _ := trivial
  port _ _ _ _ := trivial
  entry _ _ _ _ := trivial
  others _ _ _ _ _ _ := trivial
  slip _ _ := trivial

/-- The commands that may move the frame counter: power-on reset and the sources of frames. -/
def movesFrames : Instr → Bool
  | .internalSourceExpiry | .referencePulse _ _ | .missingPulseTimer | .powerOnReset => true
  | _ => false

/-- The commands that may change the settings or the Reference Unit, requests apart: the resets and the sources of frames. -/
def isClockwork (c : Instr) : Bool := movesFrames c || decide (c = .warmReset)

/-- The commands but for power-on reset that may change the queues of the control port, requests apart. -/
def isTransaction : Instr → Bool
  | .warmReset | .statusTransaction _ _ | .writeTransaction _ | .readTransaction _ | .unknownRequest => true
  | _ => false

/-- The commands that may change the levels of the input pins. -/
def isPinEdge : Instr → Bool
  | .warmReset | .panelTake _ | .panelHold _ | .panelLineRelease _ _ | .resetNRelease => true
  | _ => false

/-- The commands whose work is more than a change of the world. -/
def reachesOut (c : Instr) : Bool := isClockwork c || isTransaction c || isPinEdge c

/-- A statement about every command, by the ones whose work is more than a change of the world. -/
theorem Instr.reach_cases {motive : Instr → Prop} (powerOnReset : motive .powerOnReset) (warmReset : motive .warmReset)
    (internalSourceExpiry : motive .internalSourceExpiry) (referencePulse : ∀ since label, motive (.referencePulse since label))
    (missingPulseTimer : motive .missingPulseTimer) (statusTransaction : ∀ code further, motive (.statusTransaction code further))
    (writeTransaction : ∀ bytes, motive (.writeTransaction bytes)) (readTransaction : ∀ clocked, motive (.readTransaction clocked))
    (unknownRequest : motive .unknownRequest) (panelTake : ∀ l, motive (.panelTake l)) (panelHold : ∀ l, motive (.panelHold l))
    (panelLineRelease : ∀ l line, motive (.panelLineRelease l line)) (resetNRelease : motive .resetNRelease)
    (other : ∀ c, reachesOut c = false → motive c) (c : Instr) : motive c := by
  induction c with
  | powerOnReset => exact powerOnReset
  | warmReset => exact warmReset
  | internalSourceExpiry => exact internalSourceExpiry
  | referencePulse => exact referencePulse ..
  | missingPulseTimer => exact missingPulseTimer
  | statusTransaction => exact statusTransaction ..
  | writeTransaction => exact writeTransaction ..
  | readTransaction => exact readTransaction ..
  | unknownRequest => exact unknownRequest
  | panelTake => exact panelTake ..
  | panelHold => exact panelHold ..
  | panelLineRelease => exact panelLineRelease ..
  | resetNRelease => exact resetNRelease
  | _ => exact other _ rfl

theorem transaction_world {P : World → Prop} {f : State → State} {s : State} (hs : P s.dev.world) (hf : P (f s).dev.world) :
    P (State.transaction f s).dev.world := by
  unfold State.transaction
  split <;> [exact hs; exact hf]

section Works
variable {P : World → Prop} (h : Orderly P)
include h

/-- A world that a state may be left with: one of the property. -/
theorem Orderly.leave {s : State} {f : Env → World → World} (hf : P (f s.dev.env s.dev.world)) :
    ∃ w, P w ∧ s.event f = s.withWorld w := ⟨_, h.settling.settle _ hf, rfl⟩

theorem Orderly.leaveIf {s : State} {f : Env → World → World} {b : Bool} (hs : P s.dev.world) (hf : P (f s.dev.env s.dev.world)) :
    ∃ w, P w ∧ (if b then s.event f else s) = s.withWorld w := by
  induction b
  · exact ⟨_, hs, rfl⟩
  · exact h.leave hf

/-- The work of a command that reaches no further changes the world alone, which keeps the property. -/
theorem Orderly.workOf_other {c : Instr} (hc : reachesOut c = false) {s : State} (hs : P s.dev.world) :
    ∃ w, P w ∧ Machine.workOf c s = s.withWorld w := by
  induction c with
  | powerOnReset | warmReset | internalSourceExpiry | referencePulse | missingPulseTimer | statusTransaction | writeTransaction
  | readTransaction | unknownRequest | panelTake | panelHold | panelLineRelease | resetNRelease => exact (Bool.noConfusion hc : False).elim
  | attnPulseTimer => exact ⟨s.pulseTimer.dev.world, h.rest hs rfl rfl rfl rfl, rfl⟩
  | gateTimeout l => exact h.leaveIf (f := fun e w => World.gateTest e w l) hs (h.gateTest _ l hs)
  | lastTakeClear l => exact ⟨_, h.lastTakeTest _ l hs, rfl⟩
  | cueFrameReceived p bytes => exact ⟨_, h.receive _ p bytes hs, rfl⟩
  | ack p =>
    show ∃ w, P w ∧ State.takeAck p s = _
    unfold State.takeAck
    split <;> [exact h.leave (h.takeAnswer _ p _ _ hs); exact ⟨_, hs, rfl⟩]
  | nak p =>
    show ∃ w, P w ∧ State.takeNak p s = _
    unfold State.takeNak
    split <;> [exact h.leave (h.takeAnswer _ p _ _ hs); exact ⟨_, hs, rfl⟩]
  | endNotice p =>
    show ∃ w, P w ∧ State.takeEnd p s = _
    unfold State.takeEnd
    split <;> [exact h.leave (h.endNotice _ _ (h.popReceived p hs)); exact ⟨_, hs, rfl⟩]
  | receivedMessageDiscard p =>
    show ∃ w, P w ∧ State.takeOther p s = _
    unfold State.takeOther
    split <;> [exact ⟨_, h.popReceived p hs, rfl⟩; exact ⟨_, hs, rfl⟩]
  | ackTimeout p => exact h.leaveIf (f := fun e w => World.timeoutTest e w p) hs (h.timeoutTest _ p hs)
  | probeTimer p => exact ⟨_, h.probeTest _ p hs, rfl⟩
  | alive st => exact h.leave (f := fun _ w => w.hear st) (h.hear st hs)
  | ready st => exact h.leave (f := fun e w => World.stationReady e (w.hear st) st) (h.stationReady _ st (h.hear st hs))
  | stationHold st => exact h.leave (f := fun e w => World.stationHold e (w.hear st) st) (h.stationHold _ st (h.hear st hs))
  | stationCall st => exact h.leave (f := fun e w => World.callHeard e (w.hear st) st) (h.callHeard _ st (h.hear st hs))
  | stationFrameDiscard st bytes =>
    show ∃ w, P w ∧ State.stationFrame st bytes s = _
    unfold State.stationFrame
    split <;> [exact ⟨_, hs, rfl⟩; exact h.leave (f := fun _ w => w.hear st) (h.hear st hs)]
  | stationAbsent st => exact h.leaveIf (f := fun _ w => w.takeThirdMiss st) hs (h.takeThirdMiss st hs)
  | _ => exact ⟨_, hs, rfl⟩

theorem Orderly.pulse (since : Nat) (label : Option Label) {s : State} (hs : P s.dev.world) : P (s.pulse since label).dev.world := by
  unfold State.pulse
  dsimp only
  split
  · exact hs
  · split
    · split <;> [exact h.settling.settle _ hs; exact hs]
    · split <;> [exact h.arrival _ _ hs; exact h.settling.settle _ hs]

theorem Orderly.missPulse {s : State} (hs : P s.dev.world) : P s.missPulse.dev.world := by
  unfold State.missPulse
  dsimp only
  split
  · exact hs
  · split <;> [exact h.arrival _ _ hs; exact h.settling.settle _ hs]

/-- What a command that is no request leaves of an orderly property that the resets keep. -/
theorem Orderly.workOf (hreset : P World.reset) (hwarm : ∀ fc {w}, P w → P (World.warm fc w)) (c : Instr) {s : State}
    (hs : P s.dev.world) : P (Machine.workOf c s).dev.world := by
  induction c using Instr.reach_cases with
  | powerOnReset => exact hreset
  | warmReset =>
    show P s.warm.dev.world
    unfold State.warm
    split
    · exact hs
    · exact h.warm fun fc => hwarm fc hs
  | internalSourceExpiry =>
    show P s.sourceExpiry.dev.world
    unfold State.sourceExpiry
    split
    · exact hs
    · exact h.arrival _ _ hs
  | referencePulse since label => exact h.pulse since label hs
  | missingPulseTimer => exact h.missPulse hs
  | statusTransaction code further =>
    refine transaction_world hs ?_
    unfold State.readStatus
    split <;> [exact hs; exact h.rest hs rfl rfl rfl rfl]
  | writeTransaction bytes =>
    refine transaction_world hs ?_
    unfold State.writeRequest
    dsimp only
    split <;> exact h.rest hs rfl rfl rfl rfl
  | readTransaction clocked =>
    refine transaction_world hs ?_
    unfold State.readResponse
    dsimp only
    split <;> exact h.rest hs rfl rfl rfl rfl
  | unknownRequest =>
    show P s.serveUnknown.dev.world
    unfold State.serveUnknown
    split <;> [exact hs; (split <;> exact hs)]
  | panelTake l => exact h.panelTake l hs
  | panelHold l => exact h.panelHold l hs
  | panelLineRelease | resetNRelease => exact hs
  | other c hc =>
    obtain ⟨w, hw, heq⟩ := h.workOf_other hc hs
    rw [heq]
    exact hw

end Works

/-- Every command keeps an orderly property that the resets keep. -/
theorem Orderly.exec {P : World → Prop} (h : Orderly P) (hreset : P World.reset) (hwarm : ∀ fc {w}, P w → P (World.warm fc w))
    {c : Instr} {s t : State} (hrun : Machine.exec c s = .next t) (hs : P s.dev.world) : P t.dev.world := by
  have hhas : s.dev.Has P (fun _ => True) := ⟨hs, trivial⟩
  have hkept : RefKept (fun _ => True) := ⟨fun _ _ => trivial, fun _ _ => trivial, fun _ _ => trivial⟩
  cases hc : requestKind c with
  | some k =>
    rw [exec_request hc] at hrun
    exact (request_keeps (Q := Dev.Has P fun _ => True) hrun (h.begun hhas) (fun p => h.handlerOf hkept (h.begun hhas) p c)
      (fun _ => h.settled) (fun _ => h.drivePulse)).1
  | none =>
    rw [exec_work hc] at hrun
    rw [State.run_eq hrun]
    refine (h.drivePulse (R := fun _ => True) ⟨h.workOf hreset hwarm c ?_, trivial⟩).1
    exact h.rest hs rfl rfl rfl rfl

/-- A step is a command, or nothing. -/
theorem step_keeps {Q : State → Prop} (hexec : ∀ c s t, exec c s = .next t → Q s → Q t)
    (hpending : ∀ s rest, Q s → Q { s with pending := rest }) {s t : State} (hrun : step s = .next t) (hs : Q s) : Q t := by
  unfold step at hrun
  split at hrun
  · cases hrun; exact hs
  · exact hexec _ _ _ hrun (hpending _ _ hs)

theorem Orderly.step {P : World → Prop} (h : Orderly P) (hreset : P World.reset) (hwarm : ∀ fc {w}, P w → P (World.warm fc w))
    {s t : State} (hrun : Machine.step s = .next t) (hs : P s.dev.world) : P t.dev.world :=
  step_keeps (Q := fun s => P s.dev.world) (fun _ _ _ hrun hs => h.exec hreset hwarm hrun hs) (fun _ _ hs => hs) hrun hs

/-! ### Orderly properties -/

theorem orderly_whole : Orderly (fun w => w.store.Whole) where
  store _ hw hs := hs hw
  lane _ _ hw _ := hw
  port _ _ hw _ := hw
  entry _ _ hw _ := hw
  others hw hs _ _ _ _ := by rw [hs]; exact hw
  slip _ hw := hw

theorem orderly_lanes : Orderly (fun w => ∀ l, (w.lane l).Ok) where
  store _ hw _ := hw
  lane l r hw hr l' := by
    rw [World.setLane_lane]
    split <;> [exact hr (hw l); exact hw l']
  port _ _ hw _ := hw
  entry _ _ hw _ := hw
  others hw _ hl _ _ _ l := by rw [World.lane, hl]; exact hw l
  slip _ hw := hw

theorem orderly_ports : Orderly (fun w => ∀ p, (w.ports.get p).Ok) where
  store _ hw _ := hw
  lane _ _ hw _ := hw
  port p r hw hr p' := by
    rw [World.setPort_ports, Tbl.get_set]
    split <;> [exact hr (hw p); exact hw p']
  entry _ _ hw _ := hw
  others hw _ _ hp _ _ p := by rw [hp]; exact hw p
  slip _ hw := hw

theorem orderly_claims : Orderly (fun w => ∀ d, (w.map.get d).Ok) where
  store _ hw _ := hw
  lane _ _ hw _ := hw
  port _ _ hw _ := hw
  entry d m hw hm d' := by
    rw [World.setEntry_map, Tbl.get_set]
    split <;> [exact hm (hw d); exact hw d']
  others hw _ _ _ hm _ d := by rw [hm]; exact hw d
  slip _ hw := hw

theorem LaneRec.reset_ok : LaneRec.reset.Ok := fun _ => ⟨rfl, rfl, rfl, rfl, rfl, rfl⟩

theorem MapEntry.warm_ok (m : MapEntry) : m.warm.Ok := by simp [MapEntry.Ok, MapEntry.warm]

/-- Settles O56: a store that is whole is an orderly property. -/
theorem everyStepKeepsTheStoreWhole : Obligations.EveryStepKeepsTheStoreWhole :=
  fun _ _ hok hplaced hrun => orderly_whole.step Store.reset_whole (fun _ _ hw => Store.Whole.warm hw) hrun ⟨hok, hplaced⟩

/-- Settles O57: ports in good order are an orderly property. -/
theorem everyStepKeepsThePorts : Obligations.EveryStepKeepsThePorts :=
  fun _ _ hs hrun => orderly_ports.step (fun p => by simpa [World.reset] using Port.reset_ok)
    (fun _ w _ p => by simpa [World.warm] using Port.warm_ok (w.ports.get p)) hrun hs

/-- Settles O58: claims in good order are an orderly property. -/
theorem everyStepKeepsTheClaims : Obligations.EveryStepKeepsTheClaims :=
  fun _ _ hs hrun => orderly_claims.step (fun d => by simpa [World.reset] using MapEntry.invalid_ok)
    (fun _ w _ d => by simpa [World.warm] using MapEntry.warm_ok (w.map.get d)) hrun hs

end Sys2Proof.Machine
end

section
/-! What the commands leave of the settings and of the Reference Unit (R53 to R60), and of the queues and pins (R203, R204). -/
namespace Sys2Proof.Machine

-- One proof is checked at a time: the tests above leave little memory for proofs side by side.
set_option Elab.async false

/-! ### The Reference Unit -/

theorem Dev.arrive_ref (d : Dev) (r : RefUnit) (label : Option Label) : (d.arrive r label).env.ref = (r.arrive label).ref := by
  unfold Dev.arrive
  extract_lets k d1 d2 d3
  have h2 : d2.env.ref = k.ref := by
    unfold d2
    split
    · rw [Dev.askHardOuts_env]; rfl
    · rfl
  have h3 : d3.env.ref = k.ref := by
    unfold d3
    split <;> exact h2
  exact h3

theorem State.runTasks_env (choice : Nat → Nat) (ts : List Task) (s : State) :
    (s.runTasks choice ts).dev.env = s.dev.env := rfl

theorem State.arrival_ref (s : State) (r : RefUnit) (label : Option Label) :
    (s.arrival r label).dev.env.ref = (r.arrive label).ref := by
  rw [State.arrival, State.arrivalWith, State.runTasks_env]
  exact Dev.arrive_ref _ r label

theorem RefUnit.arrive_fc (r : RefUnit) (label : Option Label) : (r.arrive label).ref.fc = r.fc + 1 := by
  unfold RefUnit.arrive
  dsimp only
  split
  · rfl
  · unfold RefUnit.checkLabel
    split
    · rfl
    · split
      · rfl
      · split <;> rfl

/-- The frame counter where a source of frames acts: it advances where the source is a frame arrival (R53). -/
theorem State.pulse_fc (since : Nat) (label : Option Label) (s : State) :
    (s.pulse since label).dev.env.ref.fc = s.dev.env.ref.fc ∨ (s.pulse since label).dev.env.ref.fc = s.dev.env.ref.fc + 1 := by
  have hfc : s.dev.env.ref.acceptPulse.1.fc = s.dev.env.ref.fc := by
    unfold RefUnit.acceptPulse
    dsimp only
    split
    · rfl
    · split <;> rfl
    · rfl
  unfold State.pulse
  dsimp only
  split
  · exact .inl rfl
  · split
    · split <;> exact .inl rfl
    · split
      · rw [State.arrival_ref, RefUnit.arrive_fc, hfc]
        exact .inr rfl
      · exact .inl hfc

theorem State.missPulse_fc (s : State) :
    s.missPulse.dev.env.ref.fc = s.dev.env.ref.fc ∨ s.missPulse.dev.env.ref.fc = s.dev.env.ref.fc + 1 := by
  have hfc : s.dev.env.ref.missPulse.1.fc = s.dev.env.ref.fc := by
    unfold RefUnit.missPulse
    dsimp only
    split <;> rfl
  unfold State.missPulse
  dsimp only
  split
  · exact .inl rfl
  · split
    · rw [State.arrival_ref, RefUnit.arrive_fc, hfc]
      exact .inr rfl
    · exact .inl hfc

theorem State.sourceExpiry_fc (s : State) :
    s.sourceExpiry.dev.env.ref.fc = s.dev.env.ref.fc ∨ s.sourceExpiry.dev.env.ref.fc = s.dev.env.ref.fc + 1 := by
  unfold State.sourceExpiry
  split
  · exact .inl rfl
  · rw [State.arrival_ref, RefUnit.arrive_fc]
    exact .inr rfl

theorem State.transaction_keeps {α : Type} (g : State → α) {f : State → State} {s : State} (hf : g (f s) = g s) :
    g (State.transaction f s) = g s := by
  unfold State.transaction
  split <;> [rfl; exact hf]

theorem State.readStatus_env (code : Option Byte) (further : Nat) (s : State) :
    (State.readStatus code further s).dev.env = s.dev.env := by unfold State.readStatus; split <;> rfl

theorem State.writeRequest_env (bytes : List Byte) (s : State) : (State.writeRequest bytes s).dev.env = s.dev.env := by
  unfold State.writeRequest
  dsimp only
  split <;> rfl

theorem State.readResponse_env (clocked : Nat) (s : State) : (State.readResponse clocked s).dev.env = s.dev.env := by
  unfold State.readResponse
  dsimp only
  split <;> rfl

/-- The work of every other command changes the world alone. -/
theorem workOf_other {c : Instr} (h : reachesOut c = false) (s : State) : ∃ w, workOf c s = s.withWorld w :=
  (orderly_true.workOf_other h trivial).imp fun _ hw => hw.2

theorem State.serveUnknown_env (s : State) : s.serveUnknown.dev.env = s.dev.env := by
  unfold State.serveUnknown
  split <;> [rfl; (split <;> rfl)]

theorem State.panelTake_env (l : Fin 4) (s : State) : (s.panelTake l).dev.env = s.dev.env := by
  unfold State.panelTake
  split <;> [rfl; (dsimp only; split <;> rfl)]

theorem State.panelHold_env (l : Fin 4) (s : State) : (s.panelHold l).dev.env = s.dev.env := by
  unfold State.panelHold
  split <;> [rfl; (dsimp only; split <;> rfl)]

theorem workOf_env {c : Instr} (hc : isClockwork c = false) (s : State) : (workOf c s).dev.env = s.dev.env := by
  induction c using Instr.reach_cases with
  | powerOnReset | warmReset | internalSourceExpiry | referencePulse | missingPulseTimer => cases hc
  | statusTransaction code further => exact State.transaction_keeps (·.dev.env) (State.readStatus_env ..)
  | writeTransaction bytes => exact State.transaction_keeps (·.dev.env) (State.writeRequest_env ..)
  | readTransaction clocked => exact State.transaction_keeps (·.dev.env) (State.readResponse_env ..)
  | unknownRequest => exact s.serveUnknown_env
  | panelTake l => exact s.panelTake_env l
  | panelHold l => exact s.panelHold_env l
  | panelLineRelease | resetNRelease => rfl
  | other c h =>
    obtain ⟨w, hw⟩ := workOf_other h s
    rw [hw]
    rfl

/-- A request keeps what RATE, REFCFG and CLOCKSET keep of the Reference Unit. -/
theorem RefKept.request {R : RefUnit → Prop} (hr : RefKept R) {c : Instr} {k : Byte} (hc : requestKind c = some k) {s t : State}
    (hrun : exec c s = .next t) (hs : R s.dev.env.ref) : R t.dev.env.ref := by
  rw [exec_request hc] at hrun
  have hbegun : s.begun.Has (fun _ => True) R := ⟨trivial, hs⟩
  exact (request_keeps (Q := Dev.Has (fun _ => True) R) hrun hbegun
    (fun p => orderly_true.handlerOf hr hbegun p c) (fun _ => orderly_true.settled) (fun _ => orderly_true.drivePulse)).2

theorem exec_env {c : Instr} (hc : requestKind c = none) (hclock : isClockwork c = false) {s t : State}
    (hrun : exec c s = .next t) : t.dev.env = s.dev.env := by
  rw [exec_work hc] at hrun
  rw [State.run_eq hrun, State.drivePulse_env, workOf_env hclock]
  rfl

/-- No request moves the frame counter. -/
theorem refKept_fc (fc : Fc) : RefKept (fun r => r.fc = fc) where
  rate _ h := h
  configure q h := by
    unfold RefUnit.configure
    dsimp only
    split <;> exact h
  label _ h := h

/-- What a command that is no source of frames leaves of the counter. -/
theorem workOf_fc {c : Instr} (hc : movesFrames c = false) (s : State) : (workOf c s).dev.env.ref.fc = s.dev.env.ref.fc := by
  by_cases hwarm : c = .warmReset
  · subst hwarm
    show s.warm.dev.env.ref.fc = _
    unfold State.warm
    split <;> rfl
  · rw [workOf_env (by simp [isClockwork, hc, hwarm])]

theorem exec_fc {c : Instr} {s t : State} (hrun : exec c s = .next t) (hc : movesFrames c = false) :
    t.dev.env.ref.fc = s.dev.env.ref.fc := by
  cases hk : requestKind c with
  | some k => exact (refKept_fc s.dev.env.ref.fc).request hk hrun rfl
  | none =>
    rw [exec_work hk] at hrun
    rw [State.run_eq hrun, State.drivePulse_env]
    exact workOf_fc hc s.quiet

theorem run_fc {f : State → State} {s t : State} (hrun : s.run f = .next t) :
    t.dev.env.ref.fc = (f s.quiet).dev.env.ref.fc := by
  rw [State.run_eq hrun, State.drivePulse_env]

/-- Settles O6: requests leave the counter, and of the other commands only a frame arrival's sources and the resets act on the clock. -/
theorem onlyFrameArrivalsMoveTheFrameCounter : Obligations.OnlyFrameArrivalsMoveTheFrameCounter := by
  intro c s t hrun
  have hother := exec_fc hrun
  induction c with
  | powerOnReset => exact run_fc hrun
  | internalSourceExpiry =>
    rw [run_fc hrun]
    exact State.sourceExpiry_fc _
  | referencePulse since label =>
    rw [run_fc hrun]
    exact State.pulse_fc ..
  | missingPulseTimer =>
    rw [run_fc hrun]
    exact State.missPulse_fc _
  | _ => exact hother rfl

end Sys2Proof.Machine
end

section
/-! The invariants of lanes, clock and queues, and the whole-machine rules of the control port (R203, R204). -/
namespace Sys2Proof.Machine

-- One proof is checked at a time: the tests above leave little memory for proofs side by side.
set_option Elab.async false

/-! ### The Reference Unit through every step -/

theorem RefUnit.Ok.pulse {s : State} (h : s.dev.env.ref.Ok) (since : Nat) (label : Option Label) :
    (s.pulse since label).dev.env.ref.Ok := by
  unfold State.pulse
  dsimp only
  split
  · exact h
  · next he =>
    have he : s.dev.env.ref.enabled = true := by simpa using he
    split
    · split
      · next hs => exact h.loseAcquired hs
      · exact h
    · split
      · rw [State.arrival_ref]
        exact (h.acceptPulse he).arrive label
      · exact h.acceptPulse he

theorem RefUnit.Ok.missPulseEvent {s : State} (h : s.dev.env.ref.Ok) : s.missPulse.dev.env.ref.Ok := by
  unfold State.missPulse
  dsimp only
  split
  · exact h
  · split
    · rw [State.arrival_ref]
      exact h.missPulse.arrive none
    · exact h.missPulse

theorem RefUnit.Ok.sourceExpiry {s : State} (h : s.dev.env.ref.Ok) : s.sourceExpiry.dev.env.ref.Ok := by
  unfold State.sourceExpiry
  split
  · exact h
  · next hi =>
    rw [State.arrival_ref]
    exact (h.ownExpiry (by simp [hi])).arrive none

theorem RefUnit.Ok.warmEvent {s : State} (h : s.dev.env.ref.Ok) : s.warm.dev.env.ref.Ok := by
  unfold State.warm
  split
  · exact h
  · exact h.warm

theorem exec_ref_ok {c : Instr} {s t : State} (hrun : exec c s = .next t) (hs : s.dev.env.ref.Ok) : t.dev.env.ref.Ok := by
  cases hk : requestKind c with
  | some k => exact refKept_ok.request hk hrun hs
  | none =>
    rw [exec_work hk] at hrun
    rw [State.run_eq hrun, State.drivePulse_env]
    have hq : s.quiet.dev.env.ref.Ok := hs
    clear hrun hk
    induction c using Instr.reach_cases with
    | powerOnReset => exact RefUnit.reset_ok
    | warmReset => exact hq.warmEvent
    | internalSourceExpiry => exact hq.sourceExpiry
    | referencePulse since label => exact hq.pulse since label
    | missingPulseTimer => exact hq.missPulseEvent
    | statusTransaction | writeTransaction | readTransaction | unknownRequest | panelTake | panelHold | panelLineRelease
    | resetNRelease => rwa [workOf_env rfl]
    | other c h =>
      obtain ⟨w, hw⟩ := workOf_other h s.quiet
      rw [hw]
      exact hq

/-! ### The queues of the control port -/

theorem ControlPort.Ok.respond {s : State} (h : s.ctl.Ok) {r : Request} {rest : List Request}
    (hq : s.ctl.requests = r :: rest) (hlen : s.ctl.responses.length < 4) (x : Dev × Status × List Byte) :
    (s.respond rest r.tag x).ctl.Ok := by
  obtain ⟨hreq, -⟩ := h
  rw [hq, List.length_cons] at hreq
  exact ⟨by simp only [State.respond]; omega, by simp [State.respond]; omega⟩

theorem ControlPort.Ok.queue {c : ControlPort} (h : c.Ok) (r : Request) : (c.queue r).Ok := by
  obtain ⟨hreq, hresp⟩ := h
  unfold ControlPort.queue
  split
  · next hlen =>
    have hlen : c.requests.length < 4 := hlen
    exact ⟨by simp; omega, hresp⟩
  · exact ⟨hreq, hresp⟩

theorem ControlPort.Ok.writeRequest {s : State} (h : s.ctl.Ok) (bytes : List Byte) : (State.writeRequest bytes s).ctl.Ok := by
  unfold State.writeRequest
  dsimp only
  split
  · exact h
  · exact ControlPort.Ok.queue (c := s.ctl.sent) h _

theorem ControlPort.Ok.readResponse {s : State} (h : s.ctl.Ok) (clocked : Nat) : (State.readResponse clocked s).ctl.Ok := by
  unfold State.readResponse
  dsimp only
  split
  · exact h
  · next r rest hq =>
    dsimp only
    split
    · obtain ⟨hreq, hresp⟩ := h
      rw [hq, List.length_cons] at hresp
      exact ⟨hreq, by dsimp only; omega⟩
    · exact h

theorem ControlPort.Ok.serve {s : State} (h : s.ctl.Ok) (kind : Byte) (x : Handler) : (State.serve kind x s).ctl.Ok := by
  unfold State.serve
  split
  · exact h
  · next r rest hq =>
    split
    · next hc => exact h.respond hq hc.2 _
    · exact h

theorem ControlPort.Ok.serveUnknown {s : State} (h : s.ctl.Ok) : (State.serveUnknown s).ctl.Ok := by
  unfold State.serveUnknown
  split
  · exact h
  · next r rest hq =>
    split
    · next hc =>
      simp only [Bool.and_eq_true, decide_eq_true_eq] at hc
      exact h.respond hq hc.2 _
    · exact h

section Frames
variable {α : Type} {g : State → α} (hdev : ∀ s d, g { s with dev := d } = g s) (hfree : ∀ s n, g { s with free := n } = g s)
include hdev hfree

theorem State.runTasks_frame (choice : Nat → Nat) (ts : List Task) (s : State) : g (s.runTasks choice ts) = g s :=
  (hfree { s with dev := _ } _).trans (hdev s _)

theorem State.arrival_frame (r : RefUnit) (label : Option Label) (s : State) : g (s.arrival r label) = g s := by
  unfold State.arrival State.arrivalWith
  dsimp only
  rw [State.runTasks_frame hdev hfree, hdev, State.runTasks_frame hdev hfree]

theorem State.pulse_frame (since : Nat) (label : Option Label) (s : State) : g (s.pulse since label) = g s := by
  unfold State.pulse
  dsimp only
  split
  · rfl
  · split
    · split <;> [exact hdev s _; rfl]
    · split <;> [exact State.arrival_frame hdev hfree _ _ s; exact hdev s _]

theorem State.missPulse_frame (s : State) : g s.missPulse = g s := by
  unfold State.missPulse
  dsimp only
  split
  · rfl
  · split <;> [exact State.arrival_frame hdev hfree _ _ s; exact hdev s _]

theorem State.sourceExpiry_frame (s : State) : g s.sourceExpiry = g s := by
  unfold State.sourceExpiry
  split <;> [rfl; exact State.arrival_frame hdev hfree _ _ s]

theorem State.writeRequest_frame (hctl : ∀ s x, g { s with ctl := x } = g s) (bytes : List Byte) (s : State) :
    g (State.writeRequest bytes s) = g s := by
  unfold State.writeRequest
  dsimp only
  split <;> exact (hfree { s with dev := _, ctl := _ } _).trans ((hctl { s with dev := _ } _).trans (hdev s _))

omit hfree

theorem State.respond_frame (hctl : ∀ s x, g { s with ctl := x } = g s) (s : State) (rest : List Request) (tag : Byte)
    (x : Dev × Status × List Byte) : g (s.respond rest tag x) = g s :=
  (hctl { s with dev := x.1 } _).trans (hdev s _)

theorem State.readStatus_frame (hctl : ∀ s x, g { s with ctl := x } = g s) (code : Option Byte) (further : Nat) (s : State) :
    g (State.readStatus code further s) = g s := by
  unfold State.readStatus
  split <;> [rfl; exact (hctl { s with dev := _ } _).trans (hdev s _)]

theorem State.readResponse_frame (hctl : ∀ s x, g { s with ctl := x } = g s) (clocked : Nat) (s : State) :
    g (State.readResponse clocked s) = g s := by
  unfold State.readResponse
  dsimp only
  split <;> exact (hctl { s with dev := _ } _).trans (hdev s _)

theorem State.serveUnknown_frame (hctl : ∀ s x, g { s with ctl := x } = g s) (s : State) : g s.serveUnknown = g s := by
  unfold State.serveUnknown
  split
  · rfl
  · split <;> [exact State.respond_frame hdev hctl _ _ _ _; rfl]

theorem State.panelTake_frame (hpins : ∀ s x, g { s with pins := x } = g s) (l : Fin 4) (s : State) :
    g (s.panelTake l) = g s := by
  unfold State.panelTake
  split
  · rfl
  · dsimp only
    split <;> [exact (hdev { s with pins := _ } _).trans (hpins s _); exact hpins s _]

theorem State.panelHold_frame (hpins : ∀ s x, g { s with pins := x } = g s) (l : Fin 4) (s : State) :
    g (s.panelHold l) = g s := by
  unfold State.panelHold
  split
  · rfl
  · dsimp only
    split <;> [exact (hdev { s with pins := _ } _).trans (hpins s _); exact hpins s _]

theorem State.warm_frame (hctl : ∀ s x, g { s with ctl := x } = g s) (hpins : ∀ s x, g { s with pins := x } = g s) (s : State) :
    g s.warm = g s := by
  unfold State.warm
  split
  · rfl
  · exact (hpins { s with dev := _, ctl := _ } _).trans ((hctl { s with dev := _ } _).trans (hdev s _))

include hfree

/-- What a command that is no request leaves of the state: all that neither the part, nor the count of free values, nor, in a
transaction, the control port, nor, at an edge of a pin, the pins touch. -/
theorem workOf_frame {c : Instr} (hctl : isTransaction c = true ∨ c = .powerOnReset → ∀ s x, g { s with ctl := x } = g s)
    (hpins : isPinEdge c = true → ∀ s x, g { s with pins := x } = g s) (s : State) : g (workOf c s) = g s := by
  induction c using Instr.reach_cases with
  | powerOnReset => exact (hctl (.inr rfl) { s with dev := _ } _).trans (hdev s _)
  | warmReset => exact State.warm_frame hdev (hctl (.inl rfl)) (hpins rfl) s
  | statusTransaction => exact State.transaction_keeps g (State.readStatus_frame hdev (hctl (.inl rfl)) _ _ s)
  | writeTransaction => exact State.transaction_keeps g (State.writeRequest_frame hdev hfree (hctl (.inl rfl)) _ s)
  | readTransaction => exact State.transaction_keeps g (State.readResponse_frame hdev (hctl (.inl rfl)) _ s)
  | unknownRequest => exact State.serveUnknown_frame hdev (hctl (.inl rfl)) s
  | internalSourceExpiry => exact State.sourceExpiry_frame hdev hfree s
  | referencePulse => exact State.pulse_frame hdev hfree _ _ s
  | missingPulseTimer => exact State.missPulse_frame hdev hfree s
  | panelTake => exact State.panelTake_frame hdev (hpins rfl) _ s
  | panelHold => exact State.panelHold_frame hdev (hpins rfl) _ s
  | panelLineRelease => exact hpins rfl s _
  | resetNRelease => exact hpins rfl s _
  | other c h =>
    obtain ⟨w, hw⟩ := workOf_other h s
    rw [hw]
    exact hdev s _

end Frames

/-- A request changes the part and the control port alone. -/
theorem request_frame {α : Type} {g : State → α} (hdev : ∀ s d, g { s with dev := d } = g s)
    (hctl : ∀ s x, g { s with ctl := x } = g s) (k : Byte) (x : Handler) (s : State) : g (State.serve k x s) = g s := by
  unfold State.serve
  split
  · rfl
  · split <;> [exact State.respond_frame hdev hctl _ _ _ _; rfl]

/-! ### The queues and the pins through every command -/

theorem ControlPort.Ok.transaction {f : State → State} {s : State} (h : s.ctl.Ok) (hf : (f s).ctl.Ok) :
    (State.transaction f s).ctl.Ok := by
  unfold State.transaction
  split <;> [exact h; exact hf]

theorem ControlPort.Ok.readStatus {s : State} (h : s.ctl.Ok) (code : Option Byte) (further : Nat) :
    (State.readStatus code further s).ctl.Ok := by
  unfold State.readStatus
  split <;> exact h

theorem ControlPort.Ok.warm {s : State} (h : s.ctl.Ok) : s.warm.ctl.Ok := by
  unfold State.warm
  split <;> [exact h; exact ⟨Nat.zero_le _, Nat.zero_le _⟩]

theorem exec_ctl_ok {c : Instr} {s t : State} (hrun : exec c s = .next t) (hs : s.ctl.Ok) : t.ctl.Ok := by
  have hq : s.quiet.ctl.Ok := hs
  cases hk : requestKind c with
  | some k =>
    rw [exec_request hk] at hrun
    rw [State.run_eq hrun, State.drivePulse_ctl]
    exact hq.serve k _
  | none =>
    rw [exec_work hk] at hrun
    rw [State.run_eq hrun, State.drivePulse_ctl]
    have hframe : ∀ {c}, isTransaction c = false → c ≠ .powerOnReset → (workOf c s.quiet).ctl.Ok := by
      intro c hc hne
      rw [workOf_frame (g := (·.ctl)) (fun _ _ => rfl) (fun _ _ => rfl) (by simp [hc, hne]) (fun _ _ _ => rfl)]
      exact hq
    clear hrun hk
    induction c using Instr.reach_cases with
    | powerOnReset => exact ⟨Nat.zero_le _, Nat.zero_le _⟩
    | warmReset => exact hq.warm
    | statusTransaction code further => exact hq.transaction (hq.readStatus code further)
    | writeTransaction bytes => exact hq.transaction (hq.writeRequest bytes)
    | readTransaction clocked => exact hq.transaction (hq.readResponse clocked)
    | unknownRequest => exact hq.serveUnknown
    | internalSourceExpiry | referencePulse | missingPulseTimer | panelTake | panelHold | panelLineRelease
    | resetNRelease => exact hframe rfl Instr.noConfusion
    | other c h =>
      obtain ⟨w, hw⟩ := workOf_other h s.quiet
      rw [hw]
      exact hq

/-- Settles O59: lanes in good order are an orderly property; the clock and the queues are kept command by command. -/
theorem everyStepKeepsLanesClockAndQueues : Obligations.EveryStepKeepsLanesClockAndQueues := by
  refine ⟨fun s t hs hrun => ?_, fun s t hs hrun => ?_, fun s t hs hrun => ?_⟩
  · refine orderly_lanes.step (fun l => ?_) (fun fc w _ l => ?_) hrun hs
    · simpa [World.reset, World.lane] using LaneRec.reset_ok
    · simpa [World.warm, World.lane] using LaneRec.reset_ok
  · exact step_keeps (Q := fun s => s.dev.env.ref.Ok) (fun _ _ _ => exec_ref_ok) (fun _ _ hs => hs) hrun hs
  · exact step_keeps (Q := fun s => s.ctl.Ok) (fun _ _ _ => exec_ctl_ok) (fun _ _ hs => hs) hrun hs

/-- Settles O60: the reset state is that of each record's reset. -/
theorem resetMeetsTheInvariants : Obligations.ResetMeetsTheInvariants := by
  refine ⟨Store.reset_whole.1, Store.reset_whole.2, fun p => ?_, fun d => ?_, fun l => ?_, RefUnit.reset_ok,
    ⟨Nat.zero_le _, Nat.zero_le _⟩⟩
  · simpa [State.reset, Dev.reset, World.reset] using Port.reset_ok
  · simpa [State.reset, Dev.reset, World.reset] using MapEntry.invalid_ok
  · simpa [State.reset, Dev.reset, World.reset, World.lane] using LaneRec.reset_ok

theorem exec_pending (c : Instr) (s : State) : ∃ t, exec c s = .next t ∧ t.pending = s.pending := by
  cases hk : requestKind c with
  | some k =>
    rw [exec_request hk]
    exact ⟨_, rfl, (State.drivePulse_pending _).trans
      (request_frame (g := (·.pending)) (fun _ _ => rfl) (fun _ _ => rfl) k _ s.quiet)⟩
  | none =>
    rw [exec_work hk]
    exact ⟨_, rfl, (State.drivePulse_pending _).trans
      (workOf_frame (g := (·.pending)) (fun _ _ => rfl) (fun _ _ => rfl) (fun _ _ _ => rfl) (fun _ _ _ => rfl) s.quiet)⟩

theorem exec_pins {c : Instr} (hc : isPinEdge c = false) {s t : State} (hrun : exec c s = .next t) : t.pins = s.pins := by
  cases hk : requestKind c with
  | some k =>
    rw [exec_request hk] at hrun
    rw [State.run_eq hrun, State.drivePulse_pins]
    exact request_frame (g := (·.pins)) (fun _ _ => rfl) (fun _ _ => rfl) k _ s.quiet
  | none =>
    rw [exec_work hk] at hrun
    rw [State.run_eq hrun, State.drivePulse_pins]
    exact workOf_frame (g := (·.pins)) (fun _ _ => rfl) (fun _ _ => rfl) (fun _ _ _ => rfl) (by simp [hc]) s.quiet

/-- A line set where it stands already leaves the pins. -/
theorem Tbl.set_get {n : Nat} {α : Type} (t : Tbl n α) (i : Fin n) : t.set i (t.get i) = t := by
  simp [Tbl.set, Tbl.get]

theorem State.panelTake_pins (l : Fin 4) (s : State) : (s.panelTake l).pins = s.pins.line l .take true := by
  unfold State.panelTake
  split
  · next hl => simp [Pins.line, ← hl, Tbl.set_get]
  · dsimp only
    split <;> rfl

theorem State.panelHold_pins (l : Fin 4) (s : State) : (s.panelHold l).pins = s.pins.line l .hold true := by
  unfold State.panelHold
  split
  · next hl => simp [Pins.line, ← hl, Tbl.set_get]
  · dsimp only
    split <;> rfl

theorem State.warm_pins (s : State) : s.warm.pins = { s.pins with reset := true } := by
  unfold State.warm
  split
  · next hr => rw [← hr]
  · rfl

theorem run_pins {f : State → State} {s t : State} (hrun : s.run f = .next t) : t.pins = (f s.quiet).pins := by
  rw [State.run_eq hrun, State.drivePulse_pins]

/-- Settles O2: every command is a request or a work of its own, and only the edges write the pins. -/
theorem everyCommandAnswersNext : Obligations.EveryCommandAnswersNext := by
  intro c s
  obtain ⟨t, hrun, hpending⟩ := exec_pending c s
  refine ⟨t, hrun, hpending, ?_⟩
  clear hpending
  have hother : isPinEdge c = false → t.pins = s.pins := fun hc => exec_pins hc hrun
  induction c with
  | panelTake l => exact (run_pins hrun).trans (State.panelTake_pins l _)
  | panelHold l => exact (run_pins hrun).trans (State.panelHold_pins l _)
  | panelLineRelease l line => exact run_pins (f := fun s => { s with pins := s.pins.line l line false }) hrun
  | warmReset => exact (run_pins hrun).trans (State.warm_pins _)
  | resetNRelease => exact run_pins (f := State.release) hrun
  | _ => exact hother rfl

end Sys2Proof.Machine
end

section
/-! The service of requests (R204), and what SCAN and the lookups answer (R47 to R52, R69). -/
namespace Sys2Proof.Machine

-- One proof is checked at a time: the tests above leave little memory for proofs side by side.
set_option Elab.async false

/-- Settles O1: `step` is its two cases. -/
theorem stepRunsTheFrontCommand : Obligations.StepRunsTheFrontCommand := by
  refine ⟨fun c rest s hs => ?_, fun s hs => ?_⟩
  · rw [step, hs]
  · rw [step, hs]

/-! ### Steps of a handler that do not refuse -/

theorem bind_of_ok {ε α β : Type} {x : Except ε α} {a : α} {f : α → Except ε β} (h : x = .ok a) : x >>= f = f a := by
  rw [h]
  rfl

/-- Two steps of a handler that do not refuse, taken at once. -/
theorem bind_two_of_ok {ε α β γ : Type} {x : Except ε α} {y : α → Except ε β} {f : α → β → Except ε γ} {a : α} {b : β}
    {r : Except ε γ} (hx : x = .ok a) (hy : y a = .ok b) (h : f a b = r) : (x >>= fun a => y a >>= fun b => f a b) = r :=
  (bind_of_ok hx).trans ((bind_of_ok hy).trans h)

/-- Four steps of a handler that do not refuse, taken at once. -/
theorem bind_four_of_ok {ε α β γ δ ζ : Type} {x : Except ε α} {y : α → Except ε β} {z : α → β → Except ε γ}
    {v : α → β → γ → Except ε δ} {f : α → β → γ → δ → Except ε ζ} {a : α} {b : β} {c : γ} {e : δ} {r : Except ε ζ} (hx : x = .ok a)
    (hy : y a = .ok b) (hz : z a b = .ok c) (hv : v a b c = .ok e) (h : f a b c e = r) :
    (x >>= fun a => y a >>= fun b => z a b >>= fun c => v a b c >>= fun e => f a b c e) = r :=
  bind_two_of_ok hx hy (bind_two_of_ok hz hv h)

theorem want_eq {b : Bool} {st : Status} (h : b = true) : want b st = .ok () := by
  rw [h]
  rfl

theorem need_of_some {α : Type} {o : Option α} {a : α} {st : Status} (h : o = some a) : need o st = .ok a := by
  rw [h]
  rfl

/-! ### The service of a request -/

/-- A handler that changes nothing leaves the part as it was. -/
theorem finish_same {d : Dev} {x : Except Status Answer} (hx : Leaves (fun _ => False) x) : (finish d x).1 = d := by
  rcases x with st | (p | ⟨d1, p⟩ | ⟨d1, f⟩)
  · rfl
  · rfl
  · exact hx.elim
  · exact hx.elim

theorem lookup_leaves {c : Instr} (hc : c ∈ [Instr.scan, .getitem, .getel, .list, .timing, .clockread]) (d : Dev) (p : List Byte) :
    Leaves (fun _ => False) (handlerOf c d p) := by
  simp only [List.mem_cons, List.not_mem_nil, or_false] at hc
  rcases hc with rfl | rfl | rfl | rfl | rfl | rfl
  · exact Leaves.scanHandler d p
  · exact Leaves.getitemHandler d p
  · exact Leaves.getelHandler d p
  · exact Leaves.listHandler d p
  · exact Leaves.timingHandler d p
  · exact Leaves.clockreadHandler d p

/-- The commands that are requests, in the order of their kind values (R210). -/
def requests : List Instr :=
  [.insert, .amend, .move, .float, .restore, .kill, .retire, .addel, .setel, .delel, .stamp, .scan, .getitem, .getel, .list,
    .timing, .rate, .refcfg, .clockset, .clockread, .hardout, .subst, .start, .stop, .take, .hold, .resume, .lanecfg, .clearlane,
    .map, .side, .portcfg, .porten, .portreset, .station, .call, .answer, .thresh, .actions, .condread, .attncfg]

theorem kinds_eq_requests : kinds = requests.filterMap requestKind := rfl

theorem serveUnknown_answers {s : State} {r : Request} {rest : List Request} (hq : s.ctl.requests = r :: rest)
    (hlen : s.ctl.responses.length < 4) (hkind : ∀ c, requestKind c ≠ some r.kind) :
    exec .unknownRequest s = .next (s.replied rest r.tag s.begun .unknown []) := by
  have hunknown : kinds.contains r.kind = false := by
    rw [Bool.eq_false_iff]
    intro hmem
    rw [List.contains_iff_mem, kinds_eq_requests, List.mem_filterMap] at hmem
    obtain ⟨c, -, hc⟩ := hmem
    exact hkind c hc
  show State.run State.serveUnknown s = _
  unfold State.run State.serveUnknown
  have hq' : s.quiet.ctl.requests = r :: rest := hq
  have hlen' : s.quiet.ctl.responses.length < Config.controlQueueSize := hlen
  simp only [hq', hunknown, hlen', Bool.not_false, decide_true, Bool.and_self, if_true]
  rfl

/-- Settles O3: a service either waits or answers the head by its handler, and a refusal is the part as it was. -/
theorem requestsAreAnsweredUnderTheirTag : Obligations.RequestsAreAnsweredUnderTheirTag := by
  refine ⟨fun c k s r rest hc hq hk hlen => ?_, fun s r rest hq hlen hkind => serveUnknown_answers hq hlen hkind,
    fun c k s hc hs => ?_⟩
  · rw [exec_request hc]
    by_cases hlong : r.length.toNat ≤ 60
    · have hasks : s.Asks k r.tag r.payload rest := ⟨hlen, r.length, hlong, by rw [hq, ← hk]⟩
      refine ⟨_, _, _, hasks.request (handlerOf c), finish_refused _ _, fun h => absurd h (by omega), fun h => ?_⟩
      exact finish_same (lookup_leaves h _ _)
    · refine ⟨s.begun, .badArg, [], ?_, fun _ => ⟨rfl, rfl⟩, fun _ => rfl, fun _ => rfl⟩
      rcases request_cases s k (handlerOf c) with hrun | ⟨r', rest', hq', -, -, hrun⟩
      · have hserve : State.serve k (handlerOf c) s.quiet = s.quiet.respond rest r.tag (s.begun, .badArg, []) := by
          have hq' : s.quiet.ctl.requests = r :: rest := hq
          have hlen' : s.quiet.ctl.responses.length < Config.controlQueueSize := hlen
          have hlong' : maxRequest < r.length.toNat := by simpa [maxRequest] using hlong
          simp only [State.serve, hq', hk, hlen', hlong', true_and, if_true]
          rfl
        show State.run _ s = _
        rw [State.run, hserve]
        rfl
      · rw [hq] at hq'
        cases hq'
        rcases hrun with ⟨-, hrun⟩ | ⟨hshort, -⟩
        · exact hrun
        · exact absurd hshort hlong
  · rw [exec_request hc]
    exact request_waits _ hs

/-! ### SCAN (R47) -/

theorem Dev.checkPlace_eq {d : Dev} {l : Fin 4} {k : Nat} (h : d.world.store.standsIn l k) : d.checkPlace l k = .ok () := by
  unfold Dev.checkPlace
  rcases h with rfl | ⟨it, hit, hlane, hplace⟩
  · rfl
  · split
    · rfl
    · rw [Dev.find_eq hit, Except.ok_bind, hlane, hplace]
      simp

/-- The walk counts a run that meets the test, and stops at the first item that does not, at its maximum or at the bottom. -/
theorem scanWalk_spec (meets : Item → Bool) (room : Nat) (items : List Item) :
    ∃ run stop reason, scanWalk meets room items = (run, stop, reason) ∧ (∀ it ∈ items.take run, meets it = true) ∧
      run ≤ items.length ∧
      ((reason = .found ∧ run < room ∧ ∃ it, items[run]? = some it ∧ meets it = false ∧ stop = it.key) ∨
       (reason = .limit ∧ run = room ∧ stop = (items[run]?).elim 0 (·.key)) ∨
       (reason = .bottom ∧ run < room ∧ run = items.length ∧ stop = 0)) := by
  induction room generalizing items with
  | zero =>
    induction items with
    | nil => exact ⟨0, 0, .limit, rfl, by simp, Nat.le_refl _, .inr (.inl ⟨rfl, rfl, rfl⟩)⟩
    | cons it rest => exact ⟨0, it.key, .limit, rfl, by simp, Nat.zero_le _, .inr (.inl ⟨rfl, rfl, rfl⟩)⟩
  | succ room ih =>
    induction items with
    | nil => exact ⟨0, 0, .bottom, rfl, by simp, Nat.le_refl _, .inr (.inr ⟨rfl, Nat.succ_pos _, rfl, rfl⟩)⟩
    | cons it rest =>
      cases hm : meets it with
      | false =>
        exact ⟨0, it.key, .found, by simp [scanWalk, hm], by simp, Nat.zero_le _,
          .inl ⟨rfl, Nat.succ_pos _, it, rfl, hm, rfl⟩⟩
      | true =>
        obtain ⟨run, stop, reason, hwalk, hall, hlen, hwhy⟩ := ih rest
        refine ⟨run + 1, stop, reason, by simp [scanWalk, hm, hwalk], ?_, by simpa using hlen, ?_⟩
        · exact List.forall_mem_cons.2 ⟨hm, hall⟩
        · rcases hwhy with ⟨hr, hlt, x, hx, hmx, hstop⟩ | ⟨hr, heq, hstop⟩ | ⟨hr, hlt, heq, hstop⟩
          · exact .inl ⟨hr, Nat.succ_lt_succ hlt, x, hx, hmx, hstop⟩
          · exact .inr (.inl ⟨hr, congrArg (· + 1) heq, hstop⟩)
          · exact .inr (.inr ⟨hr, Nat.succ_lt_succ hlt, congrArg (· + 1) heq, hstop⟩)

theorem scanHandler_eq {d : Dev} {p : List Byte} {q : ScanReq} {l : Fin 4} (hp : readAll readScan p = some q)
    (hl : place? 4 q.lane = some l) (hplace : d.world.store.standsIn l q.start) {run stop : Nat} {reason : ScanStop}
    (hwalk : scanWalk (fun it => q.property.holds d.world.store (d.world.lane l).cursor it != q.lack) (min 512 (max 1 q.maximum))
      (d.world.store.itemsOf (fromKey (d.world.store.orders.get l) q.start)) = (run, stop, reason)) :
    scanHandler d p = .ok (.same (be 2 run ++ be 2 stop ++ be 1 reason.code)) := by
  refine bind_two_of_ok (fields_eq hp) (numbered_eq hl) ((bind_of_ok (Dev.checkPlace_eq hplace)).trans ?_)
  dsimp only
  rw [hwalk]

/-- Settles O5: the answer is the walk's. -/
theorem scanCountsAConsecutiveRun : Obligations.ScanCountsAConsecutiveRun := by
  intro s tag p rest q l hs hp hl hplace
  obtain ⟨run, stop, reason, hwalk, hall, hlen, hwhy⟩ := scanWalk_spec
    (fun it => q.property.holds s.dev.world.store (s.dev.world.lane l).cursor it != q.lack) (min 512 (max 1 q.maximum))
    (s.dev.world.store.itemsOf (fromKey (s.dev.world.store.orders.get l) q.start))
  refine ⟨run, stop, reason.code, hs.same (scanHandler_eq hp hl hplace hwalk), hall, hlen, ?_⟩
  rcases hwhy with ⟨rfl, h⟩ | ⟨rfl, h⟩ | ⟨rfl, h⟩
  · exact .inl ⟨rfl, h⟩
  · exact .inr (.inl ⟨rfl, h⟩)
  · exact .inr (.inr ⟨rfl, h⟩)

/-! ### The lookups (R49 to R52, R69) -/

theorem Dev.standing_eq (d : Dev) (it : Item) :
    d.standing it =
      if (it.state = .pending ∨ it.state = .next) ∧ it.disposition = .inOrder ∧ it.place = .order then
        if it.key ∈ belowCursor (d.world.store.orders.get it.lane) (d.world.lane it.lane).cursor then 1 else 0
      else 2 := by
  simp only [Dev.standing, Store.passed, Store.isIncluded, Item.livePending_eq]
  by_cases hlive : (it.state = .pending ∨ it.state = .next) ∧ it.disposition = .inOrder <;> by_cases hplace : it.place = .order <;>
    by_cases hkey : it.key ∈ belowCursor (d.world.store.orders.get it.lane) (d.world.lane it.lane).cursor <;>
    simp_all

theorem endModeBytes_eq (m : EndMode) :
    endModeBytes m = match m with
      | .manual => be 1 0
      | .timed => be 1 1
      | .clip j => be 1 2 ++ be 1 j := by
  induction m <;> simp [endModeBytes, EndMode.code, EndMode.index?]

theorem Item.failed_eq (it : Item) :
    it.failed = (it.elements.filter (fun el => decide (el.fire = .failed ∨ el.fire = .skipped))).length := by
  simp only [Item.failed, List.countP_eq_length_filter, Bool.decide_or]

/-- The kind and the content of an element (R50). -/
theorem contentBytes_eq (offset : Nat) (c : Content) : be 1 c.kindCode ++ contentBytes offset c =
    (match c with
      | .clip dev clip => be 1 0 ++ be 1 dev.val ++ duration offset ++ be 4 clip.toNat
      | .clipStop dev => be 1 1 ++ be 1 dev.val ++ duration offset
      | .gfxIn dev template dat => be 1 2 ++ be 1 dev.val ++ duration offset ++ be 2 template.toNat ++ be 4 dat.toNat
      | .gfxOut dev template => be 1 3 ++ be 1 dev.val ++ duration offset ++ be 2 template.toNat
      | .cue st lead gating => be 1 4 ++ be 1 st.val ++ duration offset ++ be 2 lead ++ flag gating) := by
  induction c <;> simp only [contentBytes, Content.kindCode, List.append_assoc]

theorem elementBytes_eq (it : Item) (i : Nat) (el : Element) :
    elementBytes it i el = be 1 i ++
      (match el.content with
        | .clip dev clip => be 1 0 ++ be 1 dev.val ++ duration el.offset ++ be 4 clip.toNat
        | .clipStop dev => be 1 1 ++ be 1 dev.val ++ duration el.offset
        | .gfxIn dev template dat => be 1 2 ++ be 1 dev.val ++ duration el.offset ++ be 2 template.toNat ++ be 4 dat.toNat
        | .gfxOut dev template => be 1 3 ++ be 1 dev.val ++ duration el.offset ++ be 2 template.toNat
        | .cue st lead gating => be 1 4 ++ be 1 st.val ++ duration el.offset ++ be 2 lead ++ flag gating) ++
      be 1 el.fire.code ++ (if el.content.isClip = true then be 1 el.load.code else []) ++
      optional (fun r => be 1 r.code) el.failReason ++ flag el.late ++ be 1 (min 255 el.pass.toNat) ++
      flag (decide (it.state = .onAir ∧ it.endMode = .clip i)) := by
  have hend : it.isEndClip i = decide (it.state = .onAir ∧ it.endMode = .clip i) := by
    cases hm : it.endMode <;> simp [Item.isEndClip, EndMode.index?, hm]
  rw [elementBytes, hend, List.append_assoc (be 1 i), contentBytes_eq]

section Lookups
variable {d : Dev} {p : List Byte} {k n i : Nat} {it : Item} {el : Element} {l : Fin 4}

theorem getitemHandler_eq (hp : readAll (readNat 2) p = some k) (hk : k ≠ 0) (hit : d.world.item? k = some it) :
    getitemHandler d p = .ok (.same (d.itemBytes it)) := by
  exact bind_two_of_ok (fields_eq hp) (itemKey_eq hk) (bind_of_ok (Dev.find_eq hit))

theorem getelHandler_eq (hp : readAll readDelel p = some (k, i)) (hk : k ≠ 0) (hit : d.world.item? k = some it)
    (hel : it.elements[i]? = some el) : getelHandler d p = .ok (.same (elementBytes it i el)) := by
  exact (bind_of_ok (fields_eq hp)).trans (bind_two_of_ok (itemKey_eq hk) (Dev.find_eq hit) (bind_of_ok (need_of_some hel)))

theorem listHandler_eq (hp : readAll readLaneKey p = some (n, k)) (hl : place? 4 n = some l)
    (hplace : d.world.store.standsIn l k) :
    listHandler d p = .ok (.same (listBytes (d.listEntry l)
        ((d.world.store.itemsOf (fromKey (d.world.store.orders.get l) k)).take 16) ++
      keyBytes ((fromKey (d.world.store.orders.get l) k).drop 16).head? ++ be 2 (d.world.store.orders.get l).length ++
      keyBytes (d.world.lane l).cursor ++ keyBytes (d.world.lane l).onAir ++ keyBytes (d.world.lane l).next ++
      keyBytes (d.world.store.standbys.get l) ++ be 1 (d.world.lane l).state.code ++ be 2 d.world.store.freeItems.length ++
      be 2 d.world.store.freeElements.length)) := by
  exact (bind_of_ok (fields_eq hp)).trans (bind_two_of_ok (numbered_eq hl) (Dev.checkPlace_eq hplace) rfl)

theorem timingHandler_eq (hp : readAll readLaneKey p = some (n, k)) (hl : place? 4 n = some l)
    (hplace : d.world.store.standsIn l k) :
    timingHandler d p = .ok (.same (be 4 (d.world.timing.get l).computedAt.toNat ++ optional signed (d.world.timing.get l).overA ++
      optional signed (d.world.timing.get l).rawOver ++ optional signed (d.world.timing.get l).residual ++
      (optional (fun a => be 2 a.1 ++ duration a.2) (d.world.timing.get l).absorber ++
        be 1 (d.env.cfg.lanes.get l).fitMode.code ++ flag (d.env.cfg.lanes.get l).substitute.isSome ++
        optional labelBytes ((d.env.cfg.hardOuts.get l).map (·.label)) ++
        listBytes d.timingEntry (((d.world.timing.get l).items.filter
          (fun x => (fromKey (d.world.store.orders.get l) k).contains x.key)).take 8) ++
        keyBytes (d.world.lane l).cursor))) := by
  refine (bind_of_ok (fields_eq hp)).trans (bind_two_of_ok (numbered_eq hl) (Dev.checkPlace_eq hplace) ?_)
  simp only [List.append_assoc]

end Lookups

/-- Settles O4: each lookup answers by its handler; the bytes are the record's fields in their order. -/
theorem lookupsReturnTheRecords : Obligations.LookupsReturnTheRecords := by
  refine ⟨fun s tag p rest k it hs hp hk hit => ?_, fun s tag p rest k i it el hs hp hk hit hel => ?_,
    fun s tag p rest n l k hs hp hl hplace => ?_, fun s tag p rest n l k hs hp hl hplace => ?_, fun s tag rest hs => ?_⟩
  · refine (hs.same (getitemHandler_eq hp hk hit)).trans ?_
    simp only [Dev.itemBytes, Dev.standing_eq, endModeBytes_eq, Item.failed_eq, Item.timeOnAir]
    rfl
  · exact (hs.same (getelHandler_eq hp hk hit hel)).trans
      (congrArg (fun b => Host.Outcome.next (s.replied rest tag s.begun .ok b)) (elementBytes_eq it i el))
  · refine ⟨_, _, (hs.same (listHandler_eq hp hl hplace)).trans ?_, rfl, rfl⟩
    rfl
  · exact ⟨_, hs.same (timingHandler_eq hp hl hplace), rfl⟩
  · exact hs.same (h := clockreadHandler) rfl

end Sys2Proof.Machine
end

section
/-! The transactions of the control port (R202, R203, R205). -/
namespace Sys2Proof.Machine

-- One proof is checked at a time: the tests above leave little memory for proofs side by side.
set_option Elab.async false

section Transactions
variable {s : State}

theorem run_transaction (hr : s.pins.reset = false) (f : State → State) :
    s.run (State.transaction f) = .next (f s.quiet).drivePulse := by
  simp [State.run, State.transaction, hr]

/-- Nothing is taken while RESET_N is low (R208). -/
theorem run_transaction_reset (hr : s.pins.reset = true) (f : State → State) :
    s.run (State.transaction f) = .next s.quiet.drivePulse := by
  simp [State.run, State.transaction, hr]

/-- The status byte's four fields lie side by side. -/
theorem State.statusByte_toNat (h : s.ctl.Ok) :
    s.statusByte.toNat = (4 - s.ctl.requests.length) * 32 + s.ctl.responses.length * 4 +
      (if attnSummary s.dev.env.cfg s.dev.world.monitor then 2 else 0) + (if s.ctl.overrun then 1 else 0) := by
  obtain ⟨-, hresp⟩ := h
  have hsize : Config.controlQueueSize = 4 := rfl
  rw [State.statusByte, BitVec.toNat_ofNat, hsize]
  refine Nat.mod_eq_of_lt ?_
  split <;> split <;> omega

end Transactions

/-- Settles O9: the byte driven is the status byte, and only the overrun flag changes. -/
theorem statusTransactionReadsTheStatusByte : Obligations.StatusTransactionReadsTheStatusByte := by
  refine ⟨fun s code further hr hok => ?_, fun s code further h => ?_⟩
  · refine ⟨_, s.quiet.statusByte, run_transaction hr _, ?_, State.statusByte_toNat (s := s.quiet) hok, ?_, ?_, ?_, ?_⟩
    · rw [State.drivePulse_out]; rfl
    · rw [State.drivePulse_ctl]; rfl
    · rw [State.drivePulse_env]; rfl
    · rw [State.drivePulse_store]; rfl
    · rw [State.drivePulse_monitor]; rfl
  · cases hr : s.pins.reset with
    | true => exact run_transaction_reset hr _
    | false =>
      obtain rfl : code = none := by simpa [hr] using h
      exact run_transaction hr _

/-! ### Writes (R203) -/

theorem readFrame_append (kind tag length : Byte) {payload : List Byte} (extra : List Byte) (h : payload.length = length.toNat) :
    readFrame (kind :: tag :: length :: (payload ++ extra)) = some ({ kind, tag, length, payload }, extra.length) := by
  simp [readFrame, ← h]

/-- A frame that CS_N cuts short is none. -/
theorem readFrame_short {bytes : List Byte} (h : bytes.length < 3 ∨ ∃ kind tag length payload,
    bytes = kind :: tag :: length :: payload ∧ payload.length < length.toNat) : readFrame bytes = none := by
  rcases h with h | ⟨kind, tag, length, payload, rfl, h⟩
  · unfold readFrame
    split
    · simp at h
      omega
    · rfl
  · simp [readFrame, h]

theorem State.writeRequest_short {s : State} {bytes : List Byte} (h : readFrame bytes = none) :
    (State.writeRequest bytes s).ctl = { s.ctl with overrun := false } ∧ (State.writeRequest bytes s).dev.env = s.dev.env ∧
      (State.writeRequest bytes s).dev.world.store = s.dev.world.store ∧
      (State.writeRequest bytes s).dev.world.monitor = s.dev.world.monitor := by
  simp only [State.writeRequest, h]
  exact ⟨rfl, rfl, rfl, rfl⟩

theorem State.writeRequest_whole {s : State} {bytes : List Byte} {r : Request} {n : Nat} (h : readFrame bytes = some (r, n)) :
    (State.writeRequest bytes s).ctl = (if s.ctl.requests.length < 4 then
        { s.ctl with requests := s.ctl.requests ++ [r], overrun := false } else { s.ctl with overrun := true }) ∧
      (State.writeRequest bytes s).dev.env = s.dev.env ∧ (State.writeRequest bytes s).dev.world.store = s.dev.world.store ∧
      (State.writeRequest bytes s).dev.world.monitor = s.dev.world.monitor := by
  simp only [State.writeRequest, h]
  exact ⟨rfl, rfl, rfl, rfl⟩

/-- Settles O10: a whole frame is queued or overruns, a short one is discarded. -/
theorem writeTransactionQueuesItsRequest : Obligations.WriteTransactionQueuesItsRequest := by
  refine ⟨fun s kind tag length payload extra hr hlen => ?_, fun s bytes hr h => ?_, fun s bytes hr => run_transaction_reset hr _⟩
  · obtain ⟨hctl, henv, hstore, hmonitor⟩ :=
      State.writeRequest_whole (s := s.quiet) (readFrame_append kind tag length extra hlen)
    refine ⟨_, run_transaction hr _, ?_, ?_, ?_, ?_⟩
    · rw [State.drivePulse_ctl, hctl]; rfl
    · rw [State.drivePulse_env, henv]; rfl
    · rw [State.drivePulse_store, hstore]; rfl
    · rw [State.drivePulse_monitor, hmonitor]; rfl
  · obtain ⟨hctl, henv, hstore, hmonitor⟩ := State.writeRequest_short (s := s.quiet) (readFrame_short h)
    refine ⟨_, run_transaction hr _, ?_, ?_, ?_, ?_⟩
    · rw [State.drivePulse_ctl, hctl]; rfl
    · rw [State.drivePulse_env, henv]; rfl
    · rw [State.drivePulse_store, hstore]; rfl
    · rw [State.drivePulse_monitor, hmonitor]; rfl

/-! ### Reads (R205) -/

/-- What is clocked out of a frame followed by zeroes. -/
theorem take_frame_zeroes (frame : List Byte) (n : Nat) :
    (frame ++ List.replicate (n - frame.length) 0#8).take n = frame.take n ++ List.replicate (n - frame.length) 0#8 := by
  rw [List.take_append, List.take_of_length_le (l := List.replicate _ _) (by simp)]

/-- Settles O11: the head is clocked out, and leaves with its last byte. -/
theorem readTransactionSendsTheOldestResponse : Obligations.ReadTransactionSendsTheOldestResponse := by
  refine ⟨fun s clocked r rest hr hq => ?_, fun s clocked hr hq => ?_, fun s clocked hr => run_transaction_reset hr _⟩
  · have hq' : s.quiet.ctl.responses = r :: rest := hq
    intro frame
    refine ⟨_, s.quiet.statusByte, run_transaction hr _, ?_, ?_, ?_, ?_, ?_⟩
    · rw [State.drivePulse_ctl]
      simp only [State.readResponse, hq']
      show (if frame.length ≤ clocked then _ else _) = _
      split <;> simp [ControlPort.sent, hq]
    · rw [State.drivePulse_out, ← take_frame_zeroes]
      simp only [State.readResponse, hq']
      rfl
    · rw [State.drivePulse_env, State.readResponse_env]; rfl
    · rw [State.drivePulse_store]
      simp only [State.readResponse, hq']
      rfl
    · rw [State.drivePulse_monitor]
      simp only [State.readResponse, hq']
      rfl
  · have hq' : s.quiet.ctl.responses = [] := hq
    refine ⟨_, s.quiet.statusByte, run_transaction hr _, ?_, ?_⟩
    · rw [State.drivePulse_ctl]
      simp only [State.readResponse, hq']
      rfl
    · rw [State.drivePulse_out]
      simp only [State.readResponse, hq']
      exact congrArg (fun x => some (s.quiet.statusByte :: x)) (take_frame_zeroes emptyReply clocked)

end Sys2Proof.Machine
end

section
/-! The encodings: numbers of a payload (R82, R209, R210) and link frames (R172, R211). -/
namespace Sys2Proof.Machine

-- One proof is checked at a time: the tests above leave little memory for proofs side by side.
set_option Elab.async false

/-! ### Numbers -/

theorem readByte_cons (b : Byte) (rest : List Byte) : readByte (b :: rest) = some (b.toNat, rest) := rfl

/-- The bytes written are the number's last `n` digits in base 256. -/
theorem readNat_be (n v : Nat) (rest : List Byte) : readNat n (be n v ++ rest) = some (v % 256 ^ n, rest) := by
  induction n with
  | zero => simp [Nat.mod_one]; rfl
  | succ n ih =>
    have hdigits : v % 256 ^ (n + 1) = v / 256 ^ n % 256 * 256 ^ n + v % 256 ^ n := by
      rw [pow_succ, Nat.mod_mul, Nat.add_comm, Nat.mul_comm]
    simp only [readNat, be, List.cons_append, bind, StateT.bind, readByte_cons, BitVec.toNat_ofNat, Option.bind, ih, hdigits]
    rfl

theorem twosComplement_back {x : Int} (hlow : -8388607 ≤ x) (hhigh : x ≤ 8388607) :
    (if (x % 16777216).toNat % 256 ^ 3 < 8388608 then (((x % 16777216).toNat % 256 ^ 3 : Nat) : Int)
      else (((x % 16777216).toNat % 256 ^ 3 : Nat) : Int) - 16777216) = x := by
  rcases Int.lt_or_le x 0 with hneg | hpos
  · obtain ⟨n, hn⟩ : ∃ n : Nat, x = n - 16777216 := ⟨(x + 16777216).toNat, by omega⟩
    have hx : (x % 16777216).toNat = n := by omega
    rw [hx, Nat.mod_eq_of_lt (by omega), if_neg (by omega), hn]
  · obtain ⟨n, rfl⟩ := Int.eq_ofNat_of_zero_le hpos
    have hx : ((n : Int) % 16777216).toNat = n := by omega
    rw [hx, Nat.mod_eq_of_lt (by omega), if_pos (by omega)]

/-- A distance in the reported range is read back from its two's complement. -/
theorem readSigned_signed (d : Int) (rest : List Byte) : readSigned (signed d ++ rest) = some (clampDistance d, rest) := by
  have hbound : -8388607 ≤ clampDistance d ∧ clampDistance d ≤ 8388607 := by
    simp only [clampDistance, Config.maxDistance]
    omega
  simp only [readSigned, signed, bind, StateT.bind, readNat_be, Option.bind]
  exact congrArg (fun x => some (x, rest)) (twosComplement_back hbound.1 hbound.2)

theorem readLabel_labelBytes (x : Label) (rest : List Byte) (h : x.fitsBytes = true) :
    readLabel (labelBytes x ++ rest) = some (x, rest) := by
  obtain ⟨hh, mm, ss, ff⟩ := x
  simp only [Label.fitsBytes, Bool.and_eq_true, decide_eq_true_eq] at h
  obtain ⟨⟨⟨h1, h2⟩, h3⟩, h4⟩ := h
  simp only [readLabel, labelBytes, be, bind, StateT.bind, Option.bind, List.cons_append, List.nil_append, readByte_cons,
    BitVec.toNat_ofNat, pow_zero, Nat.div_one, Nat.mod_eq_of_lt h1, Nat.mod_eq_of_lt h2, Nat.mod_eq_of_lt h3, Nat.mod_eq_of_lt h4]
  rfl

/-- Settles O49, by the three encodings. -/
theorem numbersReadBackAsWritten : Obligations.NumbersReadBackAsWritten := by
  refine ⟨fun n v rest h => ?_, readSigned_signed, readLabel_labelBytes⟩
  rw [readNat_be, Nat.mod_eq_of_lt h]

/-! ### Link frames -/

/-- What the check does with a run of bytes that begins with the start byte. -/
theorem checkFrame_of_start {bytes rest : List Byte} {len kind : Byte} (h : fromStart bytes = startByte :: len :: kind :: rest) :
    checkFrame bytes = if 1 ≤ len.toNat ∧ len.toNat ≤ 40 ∧ rest.length = len.toNat + 1 then
      let fields := rest.take (len.toNat - 1)
      let c := crc16 (startByte :: len :: kind :: fields)
      if rest.drop (len.toNat - 1) = [c.extractLsb' 8 8, c.extractLsb' 0 8] then some (kind, fields) else none
    else none := by
  rw [checkFrame, h]

theorem checkFrame_linkFrame {before : List Byte} (hb : startByte ∉ before) (kind : Byte) {fields : List Byte}
    (hlen : fields.length < 40) : checkFrame (before ++ linkFrame kind fields) = some (kind, fields) := by
  have hn : (BitVec.ofNat 8 (fields.length + 1)).toNat = fields.length + 1 := by
    rw [BitVec.toNat_ofNat]
    omega
  rw [linkFrame, List.cons_append, List.cons_append, List.cons_append, checkFrame_of_start (fromStart_append before _ hb), hn]
  simp only [Nat.add_sub_cancel, List.take_left, List.drop_left, if_true]
  rw [if_pos ⟨Nat.le_add_left 1 _, hlen, by simp⟩]

/-- Only a frame that `linkFrame` writes passes the check. -/
theorem eq_linkFrame_of_checkFrame {bytes : List Byte} {kind : Byte} {fields : List Byte}
    (h : checkFrame bytes = some (kind, fields)) :
    fields.length < 40 ∧ ∃ before, startByte ∉ before ∧ bytes = before ++ linkFrame kind fields := by
  obtain ⟨before, hb, hbytes, hstart⟩ := fromStart_cases bytes
  obtain ⟨len, kind', rest, hf⟩ : ∃ len kind' rest, fromStart bytes = startByte :: len :: kind' :: rest := by
    rcases hstart with hnil | ⟨rest, hcons⟩
    · rw [checkFrame, hnil] at h
      cases h
    · match rest with
      | [] | [_] =>
        rw [checkFrame, hcons] at h
        cases h
      | len :: kind' :: rest => exact ⟨len, kind', rest, hcons⟩
  rw [checkFrame_of_start hf] at h
  dsimp only at h
  split_ifs at h with hlen hcrc
  obtain ⟨hpos, hmax, hrest⟩ := hlen
  obtain ⟨rfl, rfl⟩ : kind' = kind ∧ rest.take (len.toNat - 1) = fields := by simpa using h
  have htake : (rest.take (len.toNat - 1)).length = len.toNat - 1 := by
    rw [List.length_take]
    omega
  have hlenByte : BitVec.ofNat 8 ((rest.take (len.toNat - 1)).length + 1) = len := by
    rw [htake, Nat.sub_add_cancel hpos, BitVec.ofNat_toNat, BitVec.setWidth_eq]
  refine ⟨by omega, before, hb, ?_⟩
  rw [hbytes, hf, linkFrame, hlenByte, ← hcrc]
  simp only [List.cons_append, List.take_append_drop]

/-- Settles O50, by what the check does from the first start byte on. -/
theorem linkFramesPassTheirCheck : Obligations.LinkFramesPassTheirCheck :=
  ⟨fun kind _ hlen => ⟨rfl, fun _ hb => checkFrame_linkFrame hb kind hlen⟩, fun _ _ _ => eq_linkFrame_of_checkFrame,
    by decide +kernel⟩

end Sys2Proof.Machine
end

section
/-! The settings of lanes and conditions (R120, R193, R200, R207), and CONDREAD (R197). -/
namespace Sys2Proof.Machine

-- One proof is checked at a time: the tests above leave little memory for proofs side by side.
set_option Elab.async false

theorem State.Asks.done {s : State} {kind tag : Byte} {p : List Byte} {rest : List Request} {h : Handler}
    (hs : s.Asks kind tag p rest) {d : Dev} {reply : Dev → List Byte} (hh : h s.begun p = .ok (.done d reply)) :
    Machine.request kind h s = .next (s.replied rest tag d.settle .ok (reply d.settle)) := by
  rw [hs.request h, hh]; rfl

section Settings
variable {d : Dev} {p : List Byte} {n : Nat} {l : Fin 4}

/-! ### THRESH and ACTIONS (R193, R200) -/

theorem threshHandler_eq {q : ThreshReq} (hp : readAll readThresh p = some q) (hl : place? 4 q.lane = some l) :
    threshHandler d p = .ok (.write (d.withCfg (d.env.cfg.setThresh l (q.apply (d.env.cfg.thresh.get l))))
      ((d.withCfg (d.env.cfg.setThresh l (q.apply (d.env.cfg.thresh.get l)))).threshBytes l)) := by
  exact bind_two_of_ok (fields_eq hp) (numbered_eq hl) rfl

theorem actionsHandler_badArg {xs : List (Nat × Nat)} (hp : readAll readActions p = some (n, xs)) (hl : place? 4 n = some l)
    (hbad : ∃ x ∈ xs, 7 ≤ x.1 ∨ 3 < x.2) : actionsHandler d p = .error .badArg := by
  have hall : xs.all (fun x => decide (x.1 < 7) && decide (x.2 ≤ 3)) = false := by
    simpa [imp_iff_not_or] using hbad
  simp only [actionsHandler, fields_eq hp, numbered_eq hl, Except.ok_bind, hall, want_false, Except.error_bind]

theorem actionsHandler_eq {xs : List (Nat × Nat)} (hp : readAll readActions p = some (n, xs)) (hl : place? 4 n = some l)
    (hok : ∀ x ∈ xs, x.1 < 7 ∧ x.2 ≤ 3) : actionsHandler d p = .ok (.done
      (d.withCfg (d.env.cfg.setLevels l (xs.foldl setLevelOf (d.env.cfg.levels.get l)))) (fun d => d.actionBytes l)) := by
  have hall : xs.all (fun x => decide (x.1 < 7) && decide (x.2 ≤ 3)) = true := by
    simpa using fun a b hab => hok (a, b) hab
  exact (bind_of_ok (fields_eq hp)).trans (bind_two_of_ok (numbered_eq hl) (want_eq hall) rfl)

theorem setLevelOf_get (t : Tbl 7 Nat) (x : Nat × Nat) (i : Fin 7) :
    (setLevelOf t x).get i = if x.1 = i.val then x.2 else t.get i := by
  unfold setLevelOf place?
  split
  next j hj =>
    split at hj
    · cases hj
      rw [Tbl.get_set]
      simp only [Fin.ext_iff]
    · cases hj
  next hj =>
    split at hj
    · cases hj
    · rw [if_neg (by omega)]

theorem setLevels_get_of_not_mem {xs : List (Nat × Nat)} {i : Fin 7} (h : i.val ∉ xs.map (·.1)) (t : Tbl 7 Nat) :
    (xs.foldl setLevelOf t).get i = t.get i := by
  induction xs generalizing t with
  | nil => rfl
  | cons x xs ih =>
    simp only [List.map_cons, List.mem_cons, not_or] at h
    rw [List.foldl_cons, ih h.2, setLevelOf_get, if_neg (Ne.symm h.1)]

/-- Of conditions that are each named once, each takes the level it is named with. -/
theorem setLevels_get_of_mem {xs : List (Nat × Nat)} (hn : (xs.map (·.1)).Nodup) {i : Fin 7} {level : Nat}
    (h : (i.val, level) ∈ xs) (t : Tbl 7 Nat) : (xs.foldl setLevelOf t).get i = level := by
  induction xs generalizing t with
  | nil => cases h
  | cons x xs ih =>
    rw [List.map_cons, List.nodup_cons] at hn
    rcases List.mem_cons.mp h with rfl | h
    · rw [List.foldl_cons, setLevels_get_of_not_mem hn.1, setLevelOf_get, if_pos rfl]
    · exact ih hn.2 h _

/-! ### ATTNCFG (R207) -/

theorem attncfgHandler_eq {mask modeByte : Option Nat} {mode : AttnMode} (hp : readAll readAttncfg p = some (mask, modeByte))
    (hmode : modeByte.elim (some d.env.cfg.attnMode) attnMode? = some mode) :
    attncfgHandler d p = .ok (.write
      ((d.withWorld { d.world with pulse := d.world.pulse.afterMode d.env.cfg.attnMode mode }).withCfg
        { d.env.cfg with attnMask := (mask.map (BitVec.ofNat 12)).getD d.env.cfg.attnMask, attnMode := mode })
      (be 2 ((mask.map (BitVec.ofNat 12)).getD d.env.cfg.attnMask).toNat ++ be 1 mode.code ++
        be 2 d.world.monitor.causes.toNat)) := by
  induction modeByte with
  | none =>
    obtain rfl : d.env.cfg.attnMode = mode := by simpa using hmode
    simp only [attncfgHandler, fields_eq hp, Except.ok_bind]
  | some b =>
    have hb : attnMode? b = some mode := hmode
    simp only [attncfgHandler, fields_eq hp, Except.ok_bind, hb, need_some]

end Settings

/-- Settles O44: each request's handler writes its settings, by the equations above. -/
theorem conditionSettingsAreWritten : Obligations.ConditionSettingsAreWritten := by
  refine ⟨?thresh, ?actions, ?attncfg⟩
  case thresh =>
    intro s tag p rest q l t t' hs hp hl
    have hstored : (s.begun.env.cfg.setThresh l t').thresh.get l = t' := Tbl.get_set_self _ _ _
    refine (hs.write (threshHandler_eq (d := s.begun) hp hl)).trans ?_
    rw [Dev.threshBytes, show q.apply (s.begun.env.cfg.thresh.get l) = t' from rfl, Dev.withCfg_env, hstored]
    rfl
  case actions =>
    refine fun s tag p rest n xs l hs hp hl => ⟨fun hbad => hs.refused (actionsHandler_badArg hp hl hbad), fun hok hn => ?_⟩
    refine ⟨_, hs.done (actionsHandler_eq hp hl hok), rfl, rfl, rfl, ?_, ?_, ?_⟩
    · exact fun l' hl' => Tbl.get_set_ne _ _ (Ne.symm hl')
    · intro i level hmem
      exact (congrArg (Tbl.get · i) (Tbl.get_set_self _ _ _)).trans (setLevels_get_of_mem hn hmem _)
    · intro i hi
      exact (congrArg (Tbl.get · i) (Tbl.get_set_self _ _ _)).trans (setLevels_get_of_not_mem hi _)
  case attncfg => exact fun s tag p rest mask modeByte mode hs hp hmode => hs.write (attncfgHandler_eq hp hmode)

/-! ### CONDREAD (R197) -/

theorem zip_range_eq {α β : Type} {n : Nat} {xs : List α} {ys : List β} (hx : xs.length = n) (hy : ys.length = n) :
    (xs.zip ys).zip (List.range n) = (places n).map (fun i =>
      ((xs[i.val]'(hx.symm ▸ i.isLt), ys[i.val]'(hy.symm ▸ i.isLt)), i.val)) := by
  refine List.ext_getElem (by simp [places, hx, hy]) fun k hk hk' => ?_
  simp [places]

/-- The conditions that make up a lane's level: those active at it. -/
theorem Dev.madeBy_eq (d : Dev) (l : Fin 4) : d.madeBy l = ((places 7).filter (fun i =>
    decide ((d.world.lane l).actionLevel ≠ 0) && (d.world.monitor.actives l)[i.val]?.getD false &&
      decide ((d.env.cfg.levels.get l).get i = (d.world.lane l).actionLevel))).map (·.val) := by
  have hlen : (d.world.monitor.actives l).length = 7 := rfl
  unfold Dev.madeBy
  by_cases hzero : (d.world.lane l).actionLevel = 0
  · simp [hzero]
  · have hactive : ∀ i : Fin 7, (d.world.monitor.actives l)[i.val]?.getD false =
        (d.world.monitor.actives l)[i.val]'(hlen.symm ▸ i.isLt) := fun i => by
      rw [List.getElem?_eq_getElem (hlen.symm ▸ i.isLt), Option.getD_some]
    simp only [hzero, if_false, zip_range_eq (Tbl.size _) hlen, List.filter_map, List.map_map, hactive, ne_eq, not_false_eq_true,
      decide_true, Bool.true_and]
    rfl

theorem condreadHandler_eq (d : Dev) : condreadHandler d [] =
    .ok (.write (d.withWorld (d.world.setMonitor d.world.monitor.clearEnded)) d.tableBytes) := rfl

theorem Inst.latched_of_clearEnded {i : Inst} (h : i.clearEnded.latched = true) : i.latched = true := by
  unfold Inst.clearEnded at h
  split at h
  · exact h
  · cases h

theorem anyLatched_of_clearEnded {n : Nat} {t : Tbl n Inst} (h : anyLatched (t.map Inst.clearEnded) = true) :
    anyLatched t = true := by
  simp only [anyLatched, Tbl.map, List.any_map, List.any_eq_true, Function.comp_apply] at h ⊢
  obtain ⟨i, hi, hlatched⟩ := h
  exact ⟨i, hi, Inst.latched_of_clearEnded hlatched⟩

/-- Clearing what has ended latches no cause. -/
theorem Monitor.cause_of_clearEnded {m : Monitor} {c : Cond} (h : m.clearEnded.cause c = true) : m.cause c = true := by
  induction c with
  | refLost | clockSlip => exact Inst.latched_of_clearEnded h
  | _ => exact anyLatched_of_clearEnded h

/-- Settles O45: the answer is the table as it stood, and the table is cleared of what has ended. -/
theorem condreadClearsWhatHasEnded : Obligations.CondreadClearsWhatHasEnded := by
  intro s tag rest hs m clear state event level makes
  refine ⟨m.clearEnded, (hs.write (condreadHandler_eq _)).trans ?_, rfl, fun c => Monitor.cause_of_clearEnded⟩
  have hmade : ∀ l : Fin 4, listBytes (be 1) (s.begun.madeBy l) =
      listBytes (fun i : Fin 7 => be 1 i.val) ((places 7).filter (makes l)) := by
    intro l
    rw [Dev.madeBy_eq, listBytes, listBytes, List.length_map, List.flatMap_map]
    rfl
  have hbytes : s.begun.tableBytes = m.bytes ++ (places 4).flatMap (fun l => be 1 (level l)) ++
      (places 4).flatMap (fun l => listBytes (fun i : Fin 7 => be 1 i.val) ((places 7).filter (makes l))) := by
    simp only [Dev.tableBytes, hmade]
    rfl
  rw [hbytes]
  rfl

/-! ### LANECFG (R120) -/

/-- A safe list keeps each device where it is first named. -/
theorem storedSafeList_eq (xs : List (Fin 64)) : storedSafeList xs = xs.eraseDups := by
  have hstep : ∀ acc : List (Fin 64), xs.foldl (fun acc x => if acc.contains x then acc else acc ++ [x]) acc =
      acc ++ (xs.filter (fun x => !acc.contains x)).eraseDups := by
    induction xs with
    | nil => intro acc; simp
    | cons x xs ih =>
      intro acc
      rw [List.foldl_cons]
      by_cases hx : acc.contains x = true
      · rw [if_pos hx, ih, List.filter_cons_of_neg (by rw [hx]; decide)]
      · have hsplit : (xs.filter (fun y => !(acc ++ [x]).contains y)) =
            (xs.filter (fun y => !acc.contains y)).filter (fun y => !y == x) := by
          rw [List.filter_filter]
          congr 1
          funext y
          simp [Bool.and_comm, Bool.beq_eq_decide_eq]
        rw [if_neg hx, ih, hsplit, List.filter_cons_of_pos (by simpa using hx), List.eraseDups_cons, List.append_assoc]
        rfl
  exact (hstep []).trans (by simp)

theorem safeDevices_eq {given : Option (List Nat)} (h : ∀ ns, given = some ns → ∀ n ∈ ns, n < 64) :
    safeDevices given = .ok (given.map (fun ns => ns.filterMap (place? 64))) := by
  induction given with
  | none => rfl
  | some ns =>
    have hall : ns.all (fun n => decide (n < 64)) = true := by simpa using h ns rfl
    simp [safeDevices, hall]

/-- A LANECFG writes the lane's configuration; where the fit mode or the lock window changes, the lane is due to be recomputed. -/
theorem lanecfgHandler_eq {d : Dev} {p : List Byte} {q : LanecfgReq} {l : Fin 4} {mode : Option FitMode}
    (hp : readAll readLanecfg p = some q) (hl : place? 4 q.lane = some l)
    (hmode : (q.fitMode = none ∧ mode = none) ∨ ∃ n, q.fitMode = some n ∧ fitMode? n = mode ∧ mode ≠ none)
    (hsafe : ∀ ns, q.safeList = some ns → ns.length ≤ 8 ∧ ∀ n ∈ ns, n < 64) :
    let c := d.env.cfg.lanes.get l
    let c1 := q.apply mode (q.safeList.map (fun ns => ns.filterMap (place? 64))) c
    let d1 := d.withCfg (d.env.cfg.setLaneCfg l c1)
    lanecfgHandler d p = if c1.fitMode ≠ c.fitMode ∨ c1.lockWindow ≠ c.lockWindow then
      .ok (.done (d1.askRecompute l) (fun _ => laneCfgBytes c1)) else .ok (.write d1 (laneCfgBytes c1)) := by
  have hshort : ((q.safeList.map (fun ns => ns.filterMap (place? 64))).getD []).length ≤ 8 := by
    cases hq : q.safeList with
    | none => exact Nat.zero_le 8
    | some ns => exact (List.length_filterMap_le _ _).trans (hsafe ns hq).1
  have hdev := safeDevices_eq fun ns hns => (hsafe ns hns).2
  rcases hmode with ⟨hq, rfl⟩ | ⟨n, hq, hn, hsome⟩
  · simp only [lanecfgHandler, fields_eq hp, numbered_eq hl, hq, hdev, Except.ok_bind, hshort, decide_true, want_true]
  · obtain ⟨m, rfl⟩ := Option.ne_none_iff_exists'.mp hsome
    simp only [lanecfgHandler, fields_eq hp, numbered_eq hl, hq, hn, hdev, Except.ok_bind, need_some, hshort, decide_true,
      want_true]

/-- Settles O29: the two answers of the handler, the second settled with the lane due. -/
theorem lanecfgWritesTheSettingsItCarries : Obligations.LanecfgWritesTheSettingsItCarries := by
  intro s tag p rest q l mode c c' hs hp hl hmode hsafe
  have happly : q.apply mode (q.safeList.map (fun ns => ns.filterMap (place? 64))) c = c' := by
    show LaneCfg.mk .. = LaneCfg.mk ..
    cases hq : q.safeList with
    | none => rfl
    | some ns => simp [storedSafeList_eq]
  have heq := lanecfgHandler_eq (d := s.begun) hp hl hmode hsafe
  dsimp only at heq
  rw [show s.begun.env.cfg.lanes.get l = c from rfl, happly] at heq
  by_cases hdue : c'.fitMode ≠ c.fitMode ∨ c'.lockWindow ≠ c.lockWindow
  · rw [if_pos hdue] at heq
    refine ⟨_, hs.done heq, rfl, fun h1 h2 => ?_, fun _ => ⟨rfl, ?_⟩⟩
    · exact absurd hdue (by simp [h1, h2])
    · exact World.settle_computedAt (by simp [Dev.askRecompute, World.askRecompute])
  · rw [if_neg hdue] at heq
    exact ⟨_, hs.write heq, rfl, fun _ _ => rfl, fun h => absurd h hdue⟩

end Sys2Proof.Machine
end

section
/-! Latching, judging and the pulses they ask for (R190, R194, R195, R201, R206). -/
namespace Sys2Proof.Machine

-- One proof is checked at a time: the tests above leave little memory for proofs side by side.
set_option Elab.async false

/-! ### Pulses asked for (R206) -/

/-- The pulses that a condition's instance asks for as it goes from `old` to `new`: one where it latches from clear, in PULSE mode, its
cause not masked. -/
def Env.asks (e : Env) (k : Cond) (old new : Inst) : Nat :=
  if (e.cfg.attnMode = .pulse ∧ e.cfg.attnMask.getLsbD k.bit = false) ∧ old.latched = false ∧ new.latched = true then 1 else 0

/-- `n` pulses join those pending, which stop at 255. -/
def Pulse.add (p : Pulse) (n : Nat) : Pulse := { p with pending := if n = 0 then p.pending else min 255 (p.pending + n) }

@[simp] theorem Pulse.add_zero (p : Pulse) : p.add 0 = p := rfl

theorem Pulse.add_add (p : Pulse) (m n : Nat) : (p.add m).add n = p.add (m + n) := by
  unfold Pulse.add
  rcases Nat.eq_zero_or_pos m with rfl | hm
  · simp
  · rcases Nat.eq_zero_or_pos n with rfl | hn
    · simp
    · simp only [Nat.ne_of_gt hm, Nat.ne_of_gt hn, Nat.ne_of_gt (Nat.add_pos_left hm n), if_false, ← Nat.add_assoc]
      rcases Nat.le_total (p.pending + m) 255 with h | h
      · rw [Nat.min_eq_right h]
      · rw [Nat.min_eq_left h, Nat.min_eq_left (Nat.le_add_right ..), Nat.min_eq_left (h.trans (Nat.le_add_right ..))]

@[simp] theorem Env.asks_self (e : Env) (k : Cond) (i : Inst) : e.asks k i i = 0 := by simp [Env.asks]

/-- An instance that stays latched asks along its way for what it asks in all. -/
theorem Env.asks_add (e : Env) (k : Cond) {i j r : Inst} (h1 : i.latched = true → j.latched = true)
    (h2 : j.latched = true → r.latched = true) : e.asks k i j + e.asks k j r = e.asks k i r := by
  unfold Env.asks
  cases hi : i.latched <;> cases hj : j.latched <;> simp_all

theorem World.notice_pulse (e : Env) (k : Cond) (old new : Inst) (w : World) :
    (World.notice e k old new w).pulse = w.pulse.add (e.asks k old new) := by
  have hasks : (e.asks k old new) =
      if new.latched && !old.latched && decide (e.cfg.attnMode = .pulse) && !e.cfg.masked k then 1 else 0 := by
    unfold Env.asks Settings.masked
    refine if_congr ?_ rfl rfl
    simp only [Bool.and_eq_true, Bool.not_eq_true', decide_eq_true_eq]
    tauto
  rw [hasks]
  unfold World.notice
  split <;> rfl

/-- A notice changes the pulses alone. -/
theorem World.notice_eq (e : Env) (k : Cond) (old new : Inst) (w : World) :
    World.notice e k old new w = { w with pulse := w.pulse.add (e.asks k old new) } := by
  rw [← World.notice_pulse]
  unfold World.notice
  split <;> rfl

/-! ### The judgements (R190, R194, R195) -/

theorem Inst.latched_judge {i : Inst} (b : Bool) (h : i.latched = true) : (i.judge b).latched = true := by
  unfold Inst.judge
  split
  · rfl
  · exact h

@[simp] theorem Inst.active_judge (i : Inst) (b : Bool) : (i.judge b).active = b := by
  unfold Inst.judge
  split
  · next h => exact ((Bool.and_eq_true _ _).mp h).1.symm
  · rfl

/-- A judgement made twice is one. -/
@[simp] theorem Inst.judge_judge (i : Inst) (b : Bool) : (i.judge b).judge b = i.judge b := by
  obtain ⟨active, latched, count⟩ := i
  induction b <;> induction active <;> rfl

/-- The NO_NEXT that a lane's judgement gives. -/
def World.noNextOf (e : Env) (w : World) (l : Fin 4) : Inst :=
  if (w.due.get l).result then (w.monitor.noNext.get l).judge (World.isNoNext e w l) else w.monitor.noNext.get l

/-- The NOT_READY that a lane's judgement gives. -/
def World.notReadyOf (w : World) (l : Fin 4) : Inst :=
  if (w.due.get l).result || (w.due.get l).elements then (w.monitor.notReady.get l).judge (w.isNotReady l)
  else w.monitor.notReady.get l

/-- The PORT_FAULT that a lane's judgement gives. -/
def World.portFaultOf (w : World) (l : Fin 4) : Inst := (w.monitor.portFault.get l).judge (w.isPortFault l)

/-- The STATION_LOST that a lane's judgement gives. -/
def World.stationLostOf (w : World) (l : Fin 4) : Inst := (w.monitor.stationLost.get l).judge (w.isStationLost l)

/-- The condition table after a lane's judgement. -/
def World.judgedMonitor (e : Env) (w : World) (l : Fin 4) : Monitor :=
  { w.monitor with
    noNext := w.monitor.noNext.set l (World.noNextOf e w l), notReady := w.monitor.notReady.set l (w.notReadyOf l)
    portFault := w.monitor.portFault.set l (w.portFaultOf l), stationLost := w.monitor.stationLost.set l (w.stationLostOf l) }

/-- The pulses that a lane's instances ask for as the table goes from `m` to `m'`. -/
def Env.laneAsks (e : Env) (m m' : Monitor) (l : Fin 4) : Nat :=
  e.asks .noNext (m.noNext.get l) (m'.noNext.get l) + e.asks .notReady (m.notReady.get l) (m'.notReady.get l) +
    e.asks .portFault (m.portFault.get l) (m'.portFault.get l) +
    e.asks .stationLost (m.stationLost.get l) (m'.stationLost.get l)

/-- What the judgement of a lane makes of the world: the table, what was due, and the pulses. -/
theorem World.judgeLane_eq (e : Env) (w : World) (l : Fin 4) : World.judgeLane e w l =
    { w with
      monitor := World.judgedMonitor e w l
      due := w.due.set l { w.due.get l with result := false, elements := false }
      pulse := w.pulse.add (e.laneAsks w.monitor (World.judgedMonitor e w l) l) } := by
  unfold World.judgeLane
  simp only [World.notice_eq, Env.laneAsks, World.judgedMonitor, Tbl.get_set_self, ← Pulse.add_add]
  rfl

/-! ### What settling latches -/

/-- Every instance that settling judges stays latched where it was. -/
structure Monitor.Rises (m m' : Monitor) : Prop where
  refLost : m.refLost.latched = true → m'.refLost.latched = true
  noNext : ∀ l, (m.noNext.get l).latched = true → (m'.noNext.get l).latched = true
  notReady : ∀ l, (m.notReady.get l).latched = true → (m'.notReady.get l).latched = true
  portFault : ∀ l, (m.portFault.get l).latched = true → (m'.portFault.get l).latched = true
  stationLost : ∀ l, (m.stationLost.get l).latched = true → (m'.stationLost.get l).latched = true

/-- The pulses that the judged instances ask for as the table goes from `m` to `m'`. -/
def Env.judgeAsks (e : Env) (m m' : Monitor) : Nat := e.asks .refLost m.refLost m'.refLost + ∑ l, e.laneAsks m m' l

theorem add_add_four (a b c d a' b' c' d' : Nat) :
    a + b + c + d + (a' + b' + c' + d') = a + a' + (b + b') + (c + c') + (d + d') := by
  omega

theorem Env.laneAsks_add (e : Env) {m m' m'' : Monitor} (h1 : m.Rises m') (h2 : m'.Rises m'') (l : Fin 4) :
    e.laneAsks m m' l + e.laneAsks m' m'' l = e.laneAsks m m'' l := by
  unfold Env.laneAsks
  rw [← e.asks_add .noNext (h1.noNext l) (h2.noNext l), ← e.asks_add .notReady (h1.notReady l) (h2.notReady l),
    ← e.asks_add .portFault (h1.portFault l) (h2.portFault l), ← e.asks_add .stationLost (h1.stationLost l) (h2.stationLost l)]
  exact add_add_four ..

theorem Env.judgeAsks_add (e : Env) {m m' m'' : Monitor} (h1 : m.Rises m') (h2 : m'.Rises m'') :
    e.judgeAsks m m' + e.judgeAsks m' m'' = e.judgeAsks m m'' := by
  unfold Env.judgeAsks
  rw [← e.asks_add .refLost h1.refLost h2.refLost, ← Finset.sum_congr rfl fun l _ => e.laneAsks_add h1 h2 l,
    Finset.sum_add_distrib]
  omega

/-- What settling does to the judged instances: those latched stay so, and each that latches asks for its pulse. -/
structure World.Latches (e : Env) (w w' : World) : Prop where
  rises : w.monitor.Rises w'.monitor
  pulse : w'.pulse = w.pulse.add (e.judgeAsks w.monitor w'.monitor)

theorem World.Latches.refl (e : Env) (w : World) : w.Latches e w :=
  ⟨⟨id, fun _ => id, fun _ => id, fun _ => id, fun _ => id⟩, by simp [Env.judgeAsks, Env.laneAsks]⟩

theorem World.Latches.trans {e : Env} {w w' w'' : World} (h1 : w.Latches e w') (h2 : w'.Latches e w'') : w.Latches e w'' where
  rises :=
    { refLost := fun h => h2.rises.refLost (h1.rises.refLost h)
      noNext := fun l h => h2.rises.noNext l (h1.rises.noNext l h)
      notReady := fun l h => h2.rises.notReady l (h1.rises.notReady l h)
      portFault := fun l h => h2.rises.portFault l (h1.rises.portFault l h)
      stationLost := fun l h => h2.rises.stationLost l (h1.rises.stationLost l h) }
  pulse := by rw [h2.pulse, h1.pulse, Pulse.add_add, e.judgeAsks_add h1.rises h2.rises]

/-- A fold of steps that each latch so does so. -/
theorem World.Latches.foldl {α : Type} {e : Env} {f : World → α → World} (hf : ∀ (w : World) a, w.Latches e (f w a)) (xs : List α)
    (w : World) : w.Latches e (xs.foldl f w) := by
  induction xs generalizing w with
  | nil => exact .refl e w
  | cons a xs ih => exact (hf w a).trans (ih _)

/-- An instance of a table whose other places stay. -/
theorem latched_set {t : Tbl 4 Inst} {l : Fin 4} {i : Inst} (h : (t.get l).latched = true → i.latched = true) (l' : Fin 4)
    (hl : (t.get l').latched = true) : ((t.set l i).get l').latched = true := by
  rw [Tbl.get_set]
  split
  · next heq => exact h (heq ▸ hl)
  · exact hl

theorem World.latches_judgeLane (e : Env) (w : World) (l : Fin 4) : w.Latches e (World.judgeLane e w l) := by
  rw [World.judgeLane_eq]
  refine ⟨⟨id, latched_set fun h => ?_, latched_set fun h => ?_, latched_set (Inst.latched_judge _),
    latched_set (Inst.latched_judge _)⟩, ?_⟩
  · unfold World.noNextOf
    split
    · exact Inst.latched_judge _ h
    · exact h
  · unfold World.notReadyOf
    split
    · exact Inst.latched_judge _ h
    · exact h
  · have hother : ∀ l', l' ≠ l → e.laneAsks w.monitor (World.judgedMonitor e w l) l' = 0 := fun l' hl => by
      simp [Env.laneAsks, World.judgedMonitor, Tbl.get_set_ne _ _ (Ne.symm hl)]
    have hsum : e.judgeAsks w.monitor (World.judgedMonitor e w l) = e.laneAsks w.monitor (World.judgedMonitor e w l) l := by
      rw [Env.judgeAsks, Fintype.sum_eq_single l hother]
      simp [World.judgedMonitor]
    exact congrArg w.pulse.add hsum.symm

theorem World.latches_judge (e : Env) (w : World) : w.Latches e (World.judge e w) := by
  unfold World.judge
  refine World.Latches.trans ?_ (World.Latches.foldl (fun v l => World.latches_judgeLane e v l) _ _)
  rw [World.notice_eq]
  refine ⟨⟨Inst.latched_judge _, fun _ => id, fun _ => id, fun _ => id, fun _ => id⟩, ?_⟩
  have hsum : e.judgeAsks w.monitor { w.monitor with refLost := w.monitor.refLost.judge e.isRefLost } =
      e.asks .refLost w.monitor.refLost (w.monitor.refLost.judge e.isRefLost) := by
    simp [Env.judgeAsks, Env.laneAsks]
  exact congrArg w.pulse.add hsum.symm

/-! ### What leaves the condition table alone -/

/-- The condition table and the pulses are what they were. -/
def World.Unmarked (v w : World) : Prop := w.monitor = v.monitor ∧ w.pulse = v.pulse

theorem planning_unmarked (v : World) : Planning v.Unmarked where
  lane _ _ h _ := h
  elems _ h _ _ := h
  port _ _ h _ _ := h
  station _ _ h _ := h
  entry _ _ h _ _ := h
  rolls _ h := h
  due _ _ h := h
  loads _ h := h
  out _ h _ := h
  run _ _ _ h _ _ := h
  items _ h _ := h
  free {w} k h _ := World.freeItem_induction h fun it hit => by
    obtain ⟨rolls, hfree⟩ := World.freeItem_of_some hit
    rw [hfree]
    exact h
  order _ _ _ _ _ _ _ := trivial
  timing _ _ h := h

theorem World.Unmarked.latches {v w : World} (e : Env) (h : v.Unmarked w) : v.Latches e w := by
  obtain ⟨hmonitor, hpulse⟩ := h
  refine ⟨by rw [hmonitor]; exact (World.Latches.refl e v).rises, ?_⟩
  rw [hpulse, hmonitor]
  exact (World.Latches.refl e v).pulse

/-- A carry-out makes no judgement. -/
theorem World.unmarked_carryOut (e : Env) (w : World) (l : Fin 4) : w.Unmarked (World.carryOut e w l) := by
  have hplan := planning_unmarked w
  unfold World.carryOut
  have h1 : w.Unmarked (World.recompute e w l) := hplan.recompute e l ⟨rfl, rfl⟩
  dsimp only
  split
  · exact hplan.deriving.applyNotice e l trivial _ h1
  · exact h1

/-- The recomputes that are due, before the judgements of a round of settling. -/
theorem World.unmarked_recomputes (e : Env) (w : World) : w.Unmarked
    ((places 4).foldl (fun w l => if (w.due.get l).recompute then World.recompute e w l else w)
      ((places 4).foldl (World.finishWaits e) w)) := by
  have hplan := planning_unmarked w
  refine Working.foldl _ (fun _ l hw => ?_) _ (Working.foldl _ (fun _ l hw => hplan.finishWaits e l hw) _ ⟨rfl, rfl⟩)
  split
  · exact hplan.recompute e l hw
  · exact hw

theorem World.unmarked_levels (e : Env) (formed : Fin 4 → Nat) (w : World) :
    w.Unmarked ((places 4).foldl (World.applyLevel e formed) w) :=
  Working.foldl _ (fun _ l hw => (planning_unmarked w).applyLevel e _ l hw) _ ⟨rfl, rfl⟩

/-- What each round of settling relates, settling relates. -/
theorem World.settle_of_rounds {R : World → World → Prop} (e : Env) (hround : ∀ w, R w (World.settleRound e w))
    (htrans : ∀ {w w' w''}, R w w' → R w' w'' → R w w'') (w : World) : R w (World.settle e w) := by
  unfold World.settle
  generalize 64 = n
  induction n generalizing w with
  | zero => exact hround w
  | succ n ih =>
    unfold World.settleRounds
    dsimp only
    split
    · exact htrans (hround w) (ih _)
    · exact hround w

theorem World.latches_settleRound (e : Env) (w : World) : w.Latches e (World.settleRound e w) := by
  unfold World.settleRound
  exact (((World.unmarked_recomputes e w).latches e).trans (World.latches_judge e _)).trans
    ((World.unmarked_levels e _ _).latches e)

/-- Settling latches what it judges, and each instance that latches asks for its pulse. -/
theorem World.latches_settle (e : Env) (w : World) : w.Latches e (World.settle e w) :=
  World.settle_of_rounds e (World.latches_settleRound e) World.Latches.trans w

/-! ### REF_LOST (R195) -/

theorem World.judge_refLost (e : Env) (w : World) : (World.judge e w).monitor.refLost = w.monitor.refLost.judge e.isRefLost := by
  unfold World.judge
  refine Working.foldl (P := fun v => v.monitor.refLost = w.monitor.refLost.judge e.isRefLost) _ (fun v l hv => ?_) _ ?_
  · rw [World.judgeLane_eq]
    exact hv
  · rw [World.notice_eq]
    rfl

theorem World.settleRound_refLost (e : Env) (w : World) :
    (World.settleRound e w).monitor.refLost = w.monitor.refLost.judge e.isRefLost := by
  unfold World.settleRound
  rw [(World.unmarked_levels e _ _).1, World.judge_refLost, (World.unmarked_recomputes e w).1]

/-- Settling judges REF_LOST, as often as it has rounds, to one effect. -/
theorem World.settle_refLost (e : Env) (w : World) :
    (World.settle e w).monitor.refLost = w.monitor.refLost.judge e.isRefLost :=
  World.settle_of_rounds (R := fun w w' => w'.monitor.refLost = w.monitor.refLost.judge e.isRefLost) e
    (World.settleRound_refLost e) (fun h1 h2 => by rw [h2, h1, Inst.judge_judge]) w

end Sys2Proof.Machine
end

section
/-! ATTN: the pulse driver, the causes, and the pulses that latching asks for (R190, R196, R201, R206, R208). -/
namespace Sys2Proof.Machine

-- One proof is checked at a time: the tests above leave little memory for proofs side by side.
set_option Elab.async false

/-! ### The pulse driver and the ATTN line (R206) -/

theorem Pulse.advance_pending (p : Pulse) : p.advance.pending = p.pending := by
  unfold Pulse.advance
  split <;> rfl

theorem Pulse.advance_phase (p : Pulse) : p.advance.phase = if p.phase = .asserted then .gap else .idle := by
  unfold Pulse.advance
  split
  · next h => rw [h, if_neg (by decide)]
  · next h => rw [if_pos h]
  · next h => rw [h, if_neg (by decide)]

/-- A pulse starts where one is pending and none is being driven. -/
theorem State.drivePulse_starts {s : State} (hr : s.pins.reset = false) (hm : s.dev.env.cfg.attnMode = .pulse)
    {n : Nat} (hp : s.dev.world.pulse = { phase := .idle, pending := n }) (hn : 0 < n) :
    s.drivePulse.dev.world.pulse = { phase := .asserted, pending := n - 1 } ∧ s.drivePulse.attn = true := by
  have hpulse : s.drivePulse.dev.world.pulse = { phase := .asserted, pending := n - 1 } := by
    unfold State.drivePulse
    dsimp only
    rw [hp, if_pos ⟨rfl, hn, hm, hr⟩]
  refine ⟨hpulse, ?_⟩
  rw [State.attn, State.drivePulse_pins, State.drivePulse_env, hpulse, hr, hm]
  rfl

theorem State.attn_pulse {s : State} (hr : s.pins.reset = false) (hm : s.dev.env.cfg.attnMode = .pulse) :
    s.attn = true ↔ s.dev.world.pulse.phase = .asserted := by
  simp [State.attn, hr, hm]

theorem Cond.mem_all (k : Cond) : k ∈ Cond.all := by induction k <;> decide

theorem State.attn_level {s : State} (hr : s.pins.reset = false) (hm : s.dev.env.cfg.attnMode = .level) :
    s.attn = true ↔ ∃ k : Cond, s.dev.world.monitor.cause k = true ∧ s.dev.env.cfg.attnMask.getLsbD k.bit = false := by
  simp [State.attn, hr, hm, attnSummary, Settings.masked, Cond.mem_all]

/-! ### The causes (R201) -/

theorem Tbl.mem_cells {n : Nat} {α : Type} {t : Tbl n α} {a : α} : a ∈ t.cells ↔ ∃ i, t.get i = a := by
  rw [List.mem_iff_getElem]
  constructor
  · rintro ⟨k, hk, hget⟩
    exact ⟨⟨k, t.size ▸ hk⟩, hget⟩
  · rintro ⟨i, hget⟩
    exact ⟨i.val, t.size.symm ▸ i.isLt, hget⟩

theorem anyLatched_iff {n : Nat} {t : Tbl n Inst} : anyLatched t = true ↔ ∃ i, (t.get i).latched = true := by
  simp [anyLatched, Tbl.mem_cells]

/-! ### Latching (R190, R196) -/

/-- An instance latched, its table written and the notice given. -/
theorem World.notice_latch (e : Env) (k : Cond) (w : World) (i : Inst) (m : Monitor) :
    (World.notice e k i i.latch (w.setMonitor m)).monitor = m ∧
    i.latch.latched = true ∧ i.latch.count = min 255 (i.count + 1) ∧
    (World.notice e k i i.latch (w.setMonitor m)).pulse = w.pulse.add (e.asks k i i.latch) := by
  rw [World.notice_eq]
  exact ⟨rfl, rfl, rfl, rfl⟩

theorem World.evalLane_pulse (e : Env) (w : World) (l : Fin 4) : (World.evalLane e w l).pulse =
    w.pulse.add (e.asks .overC (w.monitor.overI.get l) ((World.evalLane e w l).monitor.overI.get l) +
      e.asks .underC (w.monitor.underI.get l) ((World.evalLane e w l).monitor.underI.get l)) := by
  unfold World.evalLane
  extract_lets m c seen o u w1 w2
  split
  · simp
  · have hjudged : w2.monitor = w1.monitor ∧ w2.pulse =
        w.pulse.add (e.asks .overC (m.overI.get l) o.1 + e.asks .underC (m.underI.get l) u.1) := by
      simp only [w2, World.notice_eq, Pulse.add_add, true_and]
      rfl
    have hnew : w1.monitor.overI.get l = o.1 ∧ w1.monitor.underI.get l = u.1 :=
      ⟨Tbl.get_set_self _ _ _, Tbl.get_set_self _ _ _⟩
    split
    · obtain ⟨hm, hp⟩ := World.unmarked_carryOut e w2 l
      rw [hp, hm, hjudged.1, hjudged.2, hnew.1, hnew.2]
    · rw [hjudged.1, hjudged.2, hnew.1, hnew.2]

/-- A frame that the check passes and the receive queue has no room for latches RX_OVERRUN. -/
theorem World.receive_overrun {e : Env} {w : World} {p : Fin 8} {kind : Byte} {fields : List Byte} (hlen : fields.length < 40)
    (hs : (w.ports.get p).state ≠ .down) (hfull : 4 ≤ (w.ports.get p).received.length) :
    World.receive e w p (linkFrame kind fields) = World.latchOverrun e w p := by
  have hcheck : checkFrame (linkFrame kind fields) = some (kind, fields) :=
    checkFrame_linkFrame (before := []) (by simp) kind hlen
  unfold World.receive
  simp only [hcheck, if_neg hs, Config.portQueueSize]
  exact if_neg (Nat.not_lt.mpr hfull)

/-- What the frame leaves: RX_OVERRUN of the port latched, and its pulse asked for. -/
theorem cueFrameReceived_overrun {s : State} {i : Fin 8} {kind : Byte} {fields : List Byte} (hlen : fields.length < 40)
    (hs : (s.dev.world.ports.get i).state ≠ .down) (hfull : 4 ≤ (s.dev.world.ports.get i).received.length) :
    exec (.cueFrameReceived i (linkFrame kind fields)) s =
      .next (s.quiet.withWorld (World.latchOverrun s.dev.env s.begun.world i)).drivePulse := by
  have hreceive := World.receive_overrun (e := s.dev.env) (w := s.begun.world) (kind := kind) hlen hs hfull
  exact congrArg (fun w => Host.Outcome.next (s.quiet.withWorld w).drivePulse) hreceive

/-- Settles O12, from the pulse driver, the notices, and what settling latches. -/
theorem pulsesAndReleases : Obligations.PulsesAndReleases := by
  refine ⟨fun s => ⟨s.dev.world.pulse.advance, rfl, Pulse.advance_pending _, Pulse.advance_phase _⟩, ?starts, fun _ _ _ => rfl,
    fun _ => rfl, fun m => ?causes, fun s hr => ⟨State.attn_level hr, State.attn_pulse hr⟩, ?latching, ?overrun⟩
  case starts =>
    intro s hr hm hp hn
    have hidle : s.dev.world.pulse.advance = { phase := .idle, pending := s.dev.world.pulse.pending } := by
      rw [Pulse.advance, hp]
    exact ⟨_, rfl, State.drivePulse_starts (s := s.quiet.pulseTimer) hr hm hidle hn⟩
  case causes =>
    exact ⟨anyLatched_iff, anyLatched_iff, anyLatched_iff, anyLatched_iff, anyLatched_iff, anyLatched_iff, rfl, anyLatched_iff,
      rfl, anyLatched_iff, anyLatched_iff, anyLatched_iff⟩
  case latching =>
    intro e w l p st m drives adds pulses latched
    have hlatched : ∀ (k : Cond) (i : Inst) (m' : Monitor) (i' : Inst), i' = i.latch →
        latched k i i' (World.notice e k i i.latch (w.setMonitor m')) := by
      rintro k i m' _ rfl
      exact (World.notice_latch e k w i m').2
    have hnew : ∀ {n : Nat} (k : Cond) (t : Tbl n Inst) (j : Fin n) (m' : Monitor) (f : Monitor → Tbl n Inst),
        f m' = t.set j (t.get j).latch →
        latched k (t.get j) ((f (World.notice e k (t.get j) (t.get j).latch (w.setMonitor m')).monitor).get j)
          (World.notice e k (t.get j) (t.get j).latch (w.setMonitor m')) := by
      intro n k t j m' f hf
      refine hlatched k _ m' _ ?_
      rw [(World.notice_latch e k w _ m').1, hf, Tbl.get_set_self]
    refine ⟨hnew .gateTimeout m.gateTimeout l _ Monitor.gateTimeout rfl, ?_, hnew .rxOverrun m.rxOverrun p _ Monitor.rxOverrun rfl,
      hnew .stationCall m.stationCall st _ Monitor.stationCall rfl, hnew .stationHold m.stationHold st _ Monitor.stationHold rfl,
      ?_, World.evalLane_pulse e w l, ?_⟩
    · exact hlatched .clockSlip _ _ _ (congrArg Monitor.clockSlip (World.notice_latch e .clockSlip w _ _).1)
    · show (World.judgeLane e w l).pulse = w.pulse.add (e.laneAsks m (World.judgeLane e w l).monitor l)
      rw [World.judgeLane_eq]
    · have hsettle := (World.latches_settle e w).pulse
      rw [Env.judgeAsks, Fin.sum_univ_four] at hsettle
      exact hsettle
  case overrun =>
    intro s i kind fields r hlen hs hfull hr hmask
    have hlatch := World.notice_latch s.dev.env .rxOverrun s.begun.world (s.begun.world.monitor.rxOverrun.get i)
      { s.begun.world.monitor with
        rxOverrun := s.begun.world.monitor.rxOverrun.set i (s.begun.world.monitor.rxOverrun.get i).latch }
    obtain ⟨hmonitor, -, -, hpulse⟩ := hlatch
    refine ⟨_, cueFrameReceived_overrun hlen hs hfull, fun hm => ?_, fun hm hclear hidle => ?_⟩
    · rw [State.attn_level (by rw [State.drivePulse_pins]; exact hr) (by rw [State.drivePulse_env]; exact hm)]
      refine ⟨.rxOverrun, ?_, by rw [State.drivePulse_env]; exact hmask⟩
      rw [State.drivePulse_monitor]
      refine (congrArg (Monitor.cause · .rxOverrun) hmonitor).trans (anyLatched_iff.mpr ⟨i, ?_⟩)
      rw [Tbl.get_set_self]
      rfl
    · have hone : (World.latchOverrun s.dev.env s.begun.world i).pulse = { phase := .idle, pending := 1 } := by
        refine hpulse.trans ?_
        rw [show s.begun.world.pulse = { phase := .idle, pending := 0 } from hidle, Env.asks,
          if_pos ⟨⟨hm, hmask⟩, hclear, rfl⟩]
        rfl
      have hstarts := State.drivePulse_starts (s := s.quiet.withWorld (World.latchOverrun s.dev.env s.begun.world i)) hr hm hone
        Nat.one_pos
      exact ⟨hstarts.2, hstarts.1⟩

end Sys2Proof.Machine
end

section
/-! OVER and UNDER, the judgements of a lane, and what its action level does (R122, R154, R192, R194, R195, R198, R199). -/
namespace Sys2Proof.Machine

-- One proof is checked at a time: the tests above leave little memory for proofs side by side.
set_option Elab.async false

/-! ### OVER and UNDER (R192) -/

section Evaluation
variable {t n h : Nat} {i : Inst} {count : Nat} {v : Int}

theorem evalInstance_ends (ha : i.active = true) (hv : v < (t : Int) - h) :
    evalInstance t n h (some v) i count = ({ i with active := false }, 0) := by
  simp [evalInstance, ha, hv]

theorem evalInstance_stays (ha : i.active = true) (hv : (t : Int) - h ≤ v) : evalInstance t n h (some v) i count = (i, count) := by
  simp [evalInstance, ha, hv]

theorem evalInstance_below (ha : i.active = false) (hv : v ≤ t) : evalInstance t n h (some v) i count = (i, 0) := by
  simp [evalInstance, ha, hv]

theorem evalInstance_counts (ha : i.active = false) (hv : (t : Int) < v) (hn : count + 1 < n) :
    evalInstance t n h (some v) i count = (i, count + 1) := by
  simp [evalInstance, ha, hv, Nat.not_le.mpr hn]

theorem evalInstance_latches (ha : i.active = false) (hv : (t : Int) < v) (hn : n ≤ count + 1) :
    evalInstance t n h (some v) i count = ({ active := true, latched := true, count := min 255 (i.count + 1) }, 0) := by
  simp [evalInstance, ha, hv, hn, Inst.judge, Inst.latch]

end Evaluation

/-! ### The judgements of a lane (R190, R194, R195) -/

/-- A judgement by what it asks. -/
theorem Inst.judge_spec {now : Prop} {b : Bool} (hb : b = true ↔ now) (i : Inst) : ((i.judge b).active = true ↔ now) ∧
    (now → i.active = false → (i.judge b).latched = true ∧ (i.judge b).count = min 255 (i.count + 1)) ∧
    (¬now ∨ i.active = true → (i.judge b).latched = i.latched ∧ (i.judge b).count = i.count) := by
  refine ⟨by rw [Inst.active_judge, hb], fun hnow hi => ?_, fun hor => ?_⟩
  · simp [Inst.judge, hb.mpr hnow, hi, Inst.latch]
  · have hno : (b && !i.active) = false := by
      rcases hor with hnot | hi
      · simp [Bool.eq_false_iff.mpr fun h => hnot (hb.mp h)]
      · simp [hi]
    simp [Inst.judge, hno]

theorem World.isNoNext_iff (e : Env) (w : World) (l : Fin 4) : World.isNoNext e w l = true ↔
    ∃ it, w.onAirItem? l = some it ∧ it.place = .order ∧ it.endMode ≠ .manual ∧ (w.lane l).next = none ∧
      (w.timing.get l).remOn ≤ (e.cfg.lanes.get l).noNextWarn := by
  unfold World.isNoNext
  split
  · next h => simp [h]
  · next it h => simp [h, and_assoc]

/-- Whether a CLIP of NEXT is not ready, as R194 names it. -/
theorem World.clipNotReady_iff (w : World) (front : Int) (el : Element) : w.clipNotReady front el = true ↔
    ∃ d clip, el.content = .clip d clip ∧ el.fire = .waiting ∧
      (el.load = .conflict ∨ el.load = .loadFailed ∨
        ((el.load = .unloaded ∨ el.load = .loading) ∧ front + el.offset < ((w.map.get d).preroll : Int))) := by
  unfold World.clipNotReady
  split
  · next d clip hc => cases hl : el.load <;> simp [hc]
  · next hc =>
    exact ⟨fun h => Bool.noConfusion h, fun ⟨d, clip, hd, _⟩ => absurd hd (hc d clip)⟩

theorem World.isNotReady_iff (w : World) (l : Fin 4) : w.isNotReady l = true ↔
    ∃ it, w.nextItem? l = some it ∧ ∃ el ∈ it.elements, w.clipNotReady ((w.timing.get l).front it.key) el = true := by
  unfold World.isNotReady
  split
  · next h => simp [h]
  · next it h => simp [h]

theorem World.elemPortFault_iff (w : World) (el : Element) : w.elemPortFault el = true ↔
    (el.fire = .waiting ∨ el.fire = .queued ∨ (el.fire = .failed ∧ el.failReason = some .portFault)) ∧
      ∃ d, el.content.device? = some d ∧ (w.map.get d).valid = true ∧
        (w.ports.get (w.map.get d).target.port).state ≠ .inService := by
  unfold World.elemPortFault
  cases el.content.device? <;> simp [or_assoc]

theorem World.isPortFault_iff (w : World) (l : Fin 4) : w.isPortFault l = true ↔
    ∃ k it, ((w.lane l).next = some k ∨ (w.lane l).onAir = some k) ∧ w.item? k = some it ∧
      ∃ el ∈ it.elements, w.elemPortFault el = true := by
  unfold World.isPortFault LaneRec.heldKeys
  rw [List.any_eq_true]
  constructor
  · rintro ⟨k, hk, hany⟩
    split at hany
    · next it hit => exact ⟨k, it, by simpa [or_comm] using hk, hit, by simpa using hany⟩
    · cases hany
  · rintro ⟨k, it, hk, hit, hany⟩
    exact ⟨k, by simpa [or_comm] using hk, by simpa [hit] using hany⟩

theorem World.isStationLost_iff (w : World) (l : Fin 4) : w.isStationLost l = true ↔
    ∃ st, (w.stations.get st).lane = some l ∧ (w.stations.get st).present = false := by
  unfold World.isStationLost
  rw [List.any_eq_true]
  simp [Tbl.mem_cells]

theorem Env.isRefLost_iff (e : Env) : e.isRefLost = true ↔ e.ref.enabled = true ∧ e.ref.state ≠ .locked := by
  simp [Env.isRefLost]

/-! ### Action levels (R198) -/

theorem foldl_max_spec (xs : List (Nat × Bool)) (n : Nat) :
    n ≤ xs.foldl (fun n x => if x.2 then max n x.1 else n) n ∧
    (∀ x ∈ xs, x.2 = true → x.1 ≤ xs.foldl (fun n x => if x.2 then max n x.1 else n) n) ∧
    (xs.foldl (fun n x => if x.2 then max n x.1 else n) n = n ∨
      ∃ x ∈ xs, x.2 = true ∧ xs.foldl (fun n x => if x.2 then max n x.1 else n) n = x.1) := by
  induction xs generalizing n with
  | nil => simp
  | cons x xs ih =>
    rw [List.foldl_cons]
    obtain ⟨hle, hall, hwhich⟩ := ih (if x.2 then max n x.1 else n)
    cases hx : x.2 with
    | false =>
      rw [hx] at hle hall hwhich
      refine ⟨hle, fun y hy hyt => ?_, hwhich.imp id fun ⟨y, hy, h⟩ => ⟨y, List.mem_cons_of_mem _ hy, h⟩⟩
      rcases List.mem_cons.mp hy with rfl | hy
      · rw [hx] at hyt
        cases hyt
      · exact hall y hy hyt
    | true =>
      rw [hx] at hle hall hwhich
      refine ⟨(Nat.le_max_left _ _).trans hle, fun y hy hyt => ?_, ?_⟩
      · rcases List.mem_cons.mp hy with rfl | hy
        · exact (Nat.le_max_right _ _).trans hle
        · exact hall y hy hyt
      · rcases hwhich with heq | ⟨y, hy, h⟩
        · rcases Nat.le_total x.1 n with hxn | hnx
          · exact .inl (heq.trans (Nat.max_eq_left hxn))
          · exact .inr ⟨x, List.mem_cons_self, hx, heq.trans (Nat.max_eq_right hnx)⟩
        · exact .inr ⟨y, List.mem_cons_of_mem _ hy, h⟩

/-- A lane's level is the largest configured for an active condition, 0 where none is active. -/
theorem formLevel_spec (levels : Tbl 7 Nat) {actives : List Bool} (hlen : actives.length = 7) :
    (∀ i : Fin 7, actives[i.val]? = some true → levels.get i ≤ formLevel levels actives) ∧
    (formLevel levels actives = 0 ∨ ∃ i : Fin 7, actives[i.val]? = some true ∧ levels.get i = formLevel levels actives) := by
  have hmem : ∀ n b, (n, b) ∈ levels.cells.zip actives ↔ ∃ i : Fin 7, actives[i.val]? = some b ∧ levels.get i = n := by
    intro n b
    rw [List.mem_iff_getElem]
    constructor
    · rintro ⟨k, hk, hget⟩
      rw [List.getElem_zip, Prod.mk.injEq] at hget
      rw [List.length_zip, levels.size, hlen] at hk
      exact ⟨⟨k, by omega⟩, by rw [List.getElem?_eq_getElem (by omega), hget.2], hget.1⟩
    · rintro ⟨i, hi, hget⟩
      refine ⟨i.val, by rw [List.length_zip, levels.size, hlen]; exact i.isLt, ?_⟩
      rw [List.getElem?_eq_getElem (hlen.symm ▸ i.isLt), Option.some.injEq] at hi
      rw [List.getElem_zip, Prod.mk.injEq]
      exact ⟨hget, hi⟩
  obtain ⟨-, hall, hwhich⟩ := foldl_max_spec (levels.cells.zip actives) 0
  refine ⟨fun i hi => hall (levels.get i, true) ((hmem _ _).mpr ⟨i, hi, rfl⟩) rfl, hwhich.imp id ?_⟩
  rintro ⟨⟨n, b⟩, hx, hb, hn⟩
  obtain rfl : b = true := hb
  obtain ⟨i, hi, hget⟩ := (hmem _ _).mp hx
  exact ⟨i, hi, hget.trans hn.symm⟩

/-! ### A change of the action level (R122, R199) -/

theorem World.setLane_setLane (w : World) (l : Fin 4) (a b : LaneRec) : (w.setLane l a).setLane l b = w.setLane l b := by
  simp [World.setLane, Tbl.set_set]

theorem World.modLane_modLane (w : World) (l : Fin 4) (f g : LaneRec → LaneRec) :
    (w.modLane l f).modLane l g = w.modLane l (fun r => g (f r)) := by
  simp [World.modLane, World.setLane_setLane]

/-- A lane's record written and its state then set, where the lane is started and what it has on air stays. -/
theorem World.modLane_setState {w : World} {l : Fin 4} {f : LaneRec → LaneRec} (hs : (f (w.lane l)).state ≠ .idle)
    (ha : (f (w.lane l)).onAir = (w.lane l).onAir) : (w.modLane l f).setState l =
      w.setLane l { f (w.lane l) with state := laneStateOf (w.onAirPlace l) (f (w.lane l)) } := by
  have hplace : (w.modLane l f).onAirPlace l = w.onAirPlace l := by
    simp only [World.onAirPlace, World.onAirItem?, World.modLane_lane, if_true, ha]
    rfl
  unfold World.setState
  rw [hplace, World.modLane, World.modLane_lane, if_pos rfl, if_neg hs, World.modLane, World.setLane_setLane]

theorem laneStateOf_action {onAir : Option Item} {r : LaneRec} (hr : r.action = true) :
    laneStateOf (onAir.map (·.place)) r = match onAir with
      | none => .standby
      | some it => if it.place = .standby then .filling else .held := by
  cases onAir with
  | none => rfl
  | some it => cases hp : it.place <;> simp [laneStateOf, hp, hr]

theorem laneStateOf_no_action {onAir : Option Item} {r : LaneRec} (hr : r.action = false) :
    laneStateOf (onAir.map (·.place)) r = match onAir with
      | none => .standby
      | some it => if it.place = .standby then .filling else if r.operator then .held else if r.gate then .waiting
          else .running := by
  cases onAir with
  | none => rfl
  | some it => cases hp : it.place <;> simp [laneStateOf, hp, hr]

/-- A level of 2 or more holds a started lane. -/
theorem World.setLevel_holds {e : Env} {w : World} {l : Fin 4} {n : Nat} {entry : Bool} (hs : (w.lane l).state ≠ .idle)
    (hn : 2 ≤ n) : World.setLevel e w l n entry = w.setLane l { w.lane l with
      actionLevel := n, action := true, operator := (w.lane l).operator || entry, gate := false, gateDue := none
      state := match w.onAirItem? l with
        | none => .standby
        | some it => if it.place = .standby then .filling else .held } := by
  unfold World.setLevel
  dsimp only
  rw [if_neg hs, if_pos hn, World.modLane_modLane, World.modLane_setState hs rfl, World.onAirPlace, laneStateOf_action rfl]

/-- A lane's record with a level below 2 made known. -/
def World.freedTo (w : World) (l : Fin 4) (n : Nat) : World :=
  w.setLane l { w.lane l with
    actionLevel := n, action := false
    state := match w.onAirItem? l with
      | none => .standby
      | some it => if it.place = .standby then .filling else if (w.lane l).operator then .held
          else if (w.lane l).gate then .waiting else .running }

/-- A level below 2 releases ACTION in a started lane; level 1 in WAITING tests the divert path. -/
theorem World.setLevel_frees {e : Env} {w : World} {l : Fin 4} {n : Nat} {entry : Bool} (hs : (w.lane l).state ≠ .idle)
    (hn : n < 2) : World.setLevel e w l n entry =
      if (w.lane l).state = .waiting ∧ n = 1 ∧ (w.freedTo l n).diverts l = true ∧
          World.guardPasses e (w.freedTo l n) l = true then World.fillingTake e (w.freedTo l n) l else w.freedTo l n := by
  have hfreed : ((w.modLane l (fun r => { r with actionLevel := n })).modLane l (fun r => { r with action := false })).setState l =
      w.freedTo l n := by
    rw [World.modLane_modLane, World.modLane_setState hs rfl, World.onAirPlace, laneStateOf_no_action rfl]
    rfl
  unfold World.setLevel
  dsimp only
  rw [if_neg hs, if_neg (Nat.not_le.mpr hn), hfreed]
  simp only [Bool.and_eq_true, decide_eq_true_eq, and_assoc]

theorem World.guardPasses_iff (e : Env) (w : World) (l : Fin 4) : World.guardPasses e w l = true ↔
    ∀ t, (w.lane l).lastTake = some t → ((e.cfg.lanes.get l).takeGuard : Int) ≤ fcDist t e.ref.fc := by
  unfold World.guardPasses
  split
  · next h => simp [h]
  · next t h =>
    simp only [h, Env.now, Option.some.injEq, forall_eq']
    exact decide_eq_true_iff

theorem World.diverts_iff (w : World) (l : Fin 4) : w.diverts l = true ↔ (w.lane l).actionLevel = 1 ∧
    ((w.lane l).next = none ∨ (w.monitor.notReady.get l).active = true) ∧ w.store.standbys.get l ≠ none := by
  simp [World.diverts, World.hasStandby, Option.isSome_iff_ne_none, and_assoc]

/-- The level that a lane has already is not made known anew. -/
theorem World.applyLevel_same {e : Env} {w : World} {formed : Fin 4 → Nat} {l : Fin 4} (h : formed l = (w.lane l).actionLevel) :
    World.applyLevel e formed w l = w := if_pos h

/-- A level made known is acted on. -/
theorem World.applyLevel_made {e : Env} {w : World} {formed : Fin 4 → Nat} {l : Fin 4} (h : formed l ≠ (w.lane l).actionLevel)
    (h3 : formed l ≠ 3 ∨ (w.lane l).state = .idle) :
    World.applyLevel e formed w l = World.setLevel e w l (formed l) false := by
  have hentry : (decide (formed l = 3) && decide ((w.lane l).state ≠ .idle)) = false := by simpa [or_iff_not_imp_left] using h3
  unfold World.applyLevel
  simp only [if_neg h, hentry]
  rfl

/-- On entry to level 3 SAFE goes down the safe list. -/
theorem World.applyLevel_entry {e : Env} {w : World} {formed : Fin 4 → Nat} {l : Fin 4} (h : formed l ≠ (w.lane l).actionLevel)
    (h3 : formed l = 3) (hs : (w.lane l).state ≠ .idle) :
    World.applyLevel e formed w l = World.sendSafe e (World.setLevel e w l (formed l) true) l := by
  have hentry : (decide (formed l = 3) && decide ((w.lane l).state ≠ .idle)) = true := by simp [h3, hs]
  unfold World.applyLevel
  simp only [if_neg h, hentry]
  rfl

/-- The evaluation of a lane: the table and the pulses, and then the carry-out of an active OVER. -/
theorem World.evalLane_eq {e : Env} {w : World} {l : Fin 4} (hs : (w.lane l).state ≠ .idle) :
    let c := e.cfg.thresh.get l
    let m := w.monitor
    let o := evalInstance c.overT c.count c.hysteresis (World.overSeen e w l) (m.overI.get l) (m.overCount.get l)
    let u := evalInstance c.underT c.count c.hysteresis ((World.overSeen e w l).map (fun v => -v)) (m.underI.get l)
      (m.underCount.get l)
    ∃ w1 : World, w1.monitor = { m with
        overI := m.overI.set l o.1, overCount := m.overCount.set l o.2
        underI := m.underI.set l u.1, underCount := m.underCount.set l u.2 } ∧
      w1.store = w.store ∧ w1.lanes = w.lanes ∧ w1.ports = w.ports ∧
      World.evalLane e w l = if o.1.active = true then World.carryOut e w1 l else w1 := by
  intro c m o u
  have heval : World.evalLane e w l = _ := if_neg hs
  refine ⟨_, ?_, ?_, ?_, ?_, heval⟩
  all_goals rw [World.notice_eq, World.notice_eq]; rfl

/-- SAFE goes to each device of the safe list whose port takes it. -/
theorem World.sendSafe_eq (e : Env) (w : World) (l : Fin 4) : World.sendSafe e w l =
    (e.cfg.lanes.get l).safeList.foldl (fun w d => match World.resolve e w d with
      | (w1, .target t _) => World.submitSafe e w1 t
      | (w1, _) => w1) w := by
  unfold World.sendSafe
  congr 1
  funext w d
  rcases World.resolve e w d with ⟨w1, r⟩
  induction r <;> rfl

/-- Settles O46: evaluation, judgement, level and its effects, each by the equations above. -/
theorem overAndUnderCountAndClear : Obligations.OverAndUnderCountAndClear := by
  refine ⟨fun t n h i count => ?evalInst, fun e w l hs => ?evalLane, fun e w l => ?judge, fun e w l => ?form,
    fun e w l formed => ?level, fun e w => ?refLost, fun e w l => ?safe⟩
  case evalInst =>
    exact ⟨rfl, fun _ => evalInstance_ends, fun _ => evalInstance_stays, fun _ => evalInstance_below,
      fun _ => evalInstance_counts, fun _ => evalInstance_latches, fun e w l hs => if_pos hs⟩
  case evalLane =>
    intro c m used o u
    have hused : World.overSeen e w l = used := by
      unfold World.overSeen
      cases hsub : (e.cfg.lanes.get l).substitute <;> cases ho : (w.timing.get l).overA <;>
        simp [used, hsub, ho, clampDistance, Config.maxDistance]
    have hlane := World.evalLane_eq (e := e) hs
    rw [hused] at hlane
    exact ⟨rfl, by simp [arrivalTasks, places], by simp [arrivalTasks, places], hlane⟩
  case judge =>
    intro w' judged front clipWaits faulty
    have hw' : w' = _ := World.judgeLane_eq e w l
    have hmonitor : w'.monitor = World.judgedMonitor e w l := by rw [hw']
    rw [hmonitor]
    refine ⟨fun hdue => ?_, fun hdue => ?_, ?_, ?_, by rw [hw'], by rw [hw'], by rw [hw'], by rw [hw']⟩
    · simp only [World.judgedMonitor, Tbl.get_set_self, World.noNextOf, if_pos hdue]
      exact Inst.judge_spec (World.isNoNext_iff e w l) _
    · have hor : ((w.due.get l).result || (w.due.get l).elements) = true := by simpa using hdue
      simp only [World.judgedMonitor, Tbl.get_set_self, World.notReadyOf, if_pos hor]
      refine Inst.judge_spec ((World.isNotReady_iff w l).trans ?_) _
      simp only [World.clipNotReady_iff]
      rfl
    · simp only [World.judgedMonitor, Tbl.get_set_self]
      refine Inst.judge_spec ((World.isPortFault_iff w l).trans ?_) _
      simp only [World.elemPortFault_iff]
      rfl
    · simp only [World.judgedMonitor, Tbl.get_set_self]
      exact Inst.judge_spec (World.isStationLost_iff w l) _
  case form => exact formLevel_spec _ rfl
  case level =>
    intro r n w' held freed
    refine ⟨World.applyLevel_same, fun hn hs => ?_, fun hn hs h2 => ?_, fun hn hs h3 => ?_, fun hn hs h2 hor => ?_,
      fun hn hs h1 => ?_⟩
    · exact (World.applyLevel_made hn (.inr hs)).trans (if_pos hs)
    · refine (World.applyLevel_made hn (.inl fun h3 => by omega)).trans ((World.setLevel_holds hs (by omega)).trans ?_)
      have h3 : decide (n = 3) = false := decide_eq_false (by omega)
      simp only [held, h3]
      rfl
    · refine (World.applyLevel_entry hn h3 hs).trans (congrArg (World.sendSafe e · l) ((World.setLevel_holds hs (by omega)).trans ?_))
      have h3' : decide (n = 3) = true := decide_eq_true h3
      simp only [held, h3']
      rfl
    · refine (World.applyLevel_made hn (.inl fun h3 => by omega)).trans ((World.setLevel_frees hs h2).trans (if_neg ?_))
      exact fun ⟨hw, h1, _⟩ => hor.elim (absurd hw) fun h0 => by omega
    · intro diverts guard
      have hstarted : (w.lane l).state ≠ .idle := by rw [show (w.lane l).state = .waiting from hs]; decide
      have hfrees := (World.applyLevel_made hn (.inl fun h3 => by omega)).trans
        (World.setLevel_frees (e := e) (entry := false) hstarted (show formed l < 2 by omega))
      have hdiv : freed.diverts l = true ↔ diverts := by
        rw [World.diverts_iff]
        simp [freed, h1, diverts, r]
      have hguard : World.guardPasses e freed l = true ↔ guard := by
        rw [World.guardPasses_iff]
        simp [freed, guard, r]
      refine ⟨fun hd hg => ⟨hfrees.trans (if_pos ⟨hs, h1, hdiv.mpr hd, hguard.mpr hg⟩), ?_⟩, fun hno => ?_⟩
      · simp [World.evalAuto, hdiv.mpr hd, hguard.mpr hg]
      · exact hfrees.trans (if_neg fun ⟨_, _, hd, hg⟩ => hno ⟨hdiv.mp hd, hguard.mp hg⟩)
  case refLost =>
    intro i i' lost
    have hi' : i' = i.judge e.isRefLost := World.settle_refLost e w
    rw [hi']
    exact Inst.judge_spec (Env.isRefLost_iff e) i
  case safe => exact World.sendSafe_eq e w l

end Sys2Proof.Machine
end

section
/-! The two resets (R2, R3, R71, R94, R142, R160, R177, R191, R207, R208). -/
namespace Sys2Proof.Machine

-- One proof is checked at a time: the tests above leave little memory for proofs side by side.
set_option Elab.async false

/-! ### Power-on reset -/

theorem freshRecords_length (start n : Nat) : (freshRecords start n).length = n := by
  rw [← List.length_map, freshRecords_num, List.length_range']

/-- Settles O7: the values are those that the model's own reset state holds. -/
theorem powerOnResetLeavesTheStatedValues : Obligations.PowerOnResetLeavesTheStatedValues := by
  have fill : ∀ {n : Nat} {α : Type} (a : α) (i : Fin n), (Tbl.fill n a).get i = a := Tbl.get_fill
  refine ⟨fun s => ?idle, rfl, rfl, freshRecords_length _ _, freshRecords_length _ _, fun l => ⟨fill _ l, fill _ l⟩, rfl, rfl, rfl,
    rfl, rfl, rfl, rfl, rfl, rfl, rfl, rfl, fun l => fill _ l, fun l => fill _ l, fun p => fill _ p, fun l => fill _ l,
    fun l i => ?_, rfl, rfl, fun l => fill _ l, fun n => ?_, fun p => ?_, fun st => fill _ st, rfl, rfl, rfl⟩
  case idle => rfl
  · exact (congrArg (Tbl.get · i) (fill (Tbl.fill 7 0) l)).trans (fill 0 i)
  · exact congrArg MapEntry.valid (fill MapEntry.invalid n)
  · exact ⟨congrArg Port.state (fill Port.reset p), congrArg Port.nextSeq (fill Port.reset p)⟩

/-! ### Settling a part at rest -/

/-- A part at rest: no lane has anything on air, in a queue or due, and no action level is configured. -/
structure World.AtRest (e : Env) (w : World) : Prop where
  lanes : ∀ l, w.lane l = LaneRec.reset
  due : ∀ l, w.due.get l = .clear
  levels : ∀ l i, (e.cfg.levels.get l).get i = 0

section AtRest
variable {e : Env} {w : World}

theorem World.finishWaits_of_empty {l : Fin 4} (h : (w.lane l).fireQueue = []) (hoff : (w.lane l).onAir = none) :
    World.finishWaits e w l = w := by
  have hsame : World.testCompleted e w w l = w := if_neg (by simp [World.completed, World.onAirItem?, hoff])
  simp [World.finishWaits, h, hsame]

/-- Judging moves the table, what was due and the pulses alone. -/
theorem World.judge_frame (e : Env) (w : World) :
    World.judge e w = { w with
      monitor := (World.judge e w).monitor, pulse := (World.judge e w).pulse, due := (World.judge e w).due } := by
  unfold World.judge
  refine Working.foldl (P := fun v => v = { w with monitor := v.monitor, pulse := v.pulse, due := v.due }) _ (fun v l hv => ?_) _ ?_
  · rw [World.judgeLane_eq]
    exact congrArg (fun u : World => { u with
      monitor := World.judgedMonitor e v l, pulse := v.pulse.add (e.laneAsks v.monitor (World.judgedMonitor e v l) l)
      due := v.due.set l { v.due.get l with result := false, elements := false } }) hv
  · rw [World.notice_eq]
    rfl

theorem World.AtRest.judge_due (h : w.AtRest e) (l : Fin 4) : (World.judge e w).due.get l = .clear := by
  unfold World.judge
  refine Working.foldl (P := fun v => ∀ l, v.due.get l = .clear) _ (fun v l hv l' => ?_) _ ?_ l
  · rw [World.judgeLane_eq]
    show (v.due.set l _).get l' = _
    rw [Tbl.get_set, hv l]
    split
    · rfl
    · exact hv l'
  · rw [World.notice_eq]
    exact h.due

/-- The judgement of STATION_LOST stands at the end of a lane's judging, whatever lanes are judged after it. -/
theorem World.judge_stationLost (e : Env) (w : World) (l : Fin 4) :
    ((World.judge e w).monitor.stationLost.get l).active = w.isStationLost l := by
  have hkeep : ∀ (xs : List (Fin 4)) (v : World), v.stations = w.stations →
      l ∈ xs ∨ (v.monitor.stationLost.get l).active = w.isStationLost l →
      ((xs.foldl (World.judgeLane e) v).monitor.stationLost.get l).active = w.isStationLost l := by
    intro xs
    induction xs with
    | nil => exact fun v _ h => h.resolve_left List.not_mem_nil
    | cons a xs ih =>
      intro v hv h
      rw [List.foldl_cons]
      refine ih _ (by rw [World.judgeLane_eq]; exact hv) ?_
      by_cases ha : a = l
      · subst ha
        refine .inr ?_
        rw [World.judgeLane_eq]
        show ((v.monitor.stationLost.set a (v.stationLostOf a)).get a).active = _
        rw [Tbl.get_set_self, World.stationLostOf, Inst.active_judge, World.isStationLost, hv]
        rfl
      · refine h.imp (fun hm => (List.mem_cons.mp hm).resolve_left (Ne.symm ha)) fun hact => ?_
        rw [World.judgeLane_eq]
        show ((v.monitor.stationLost.set a _).get l).active = _
        rw [Tbl.get_set_ne _ _ ha, hact]
  exact hkeep _ _ (by rw [World.notice_eq]; rfl) (.inl (by simp [places]))

theorem World.AtRest.judge (h : w.AtRest e) : (World.judge e w).AtRest e where
  lanes l := by
    rw [World.judge_frame]
    exact h.lanes l
  due := h.judge_due
  levels := h.levels

theorem World.AtRest.levels_eq (h : w.AtRest e) (l : Fin 4) : World.levels e w l = 0 := by
  rcases (formLevel_spec (e.cfg.levels.get l) (actives := w.monitor.actives l) rfl).2 with hzero | ⟨i, -, hi⟩
  · exact hzero
  · exact hi.symm.trans (h.levels l i)

/-- A fold of steps that each leave a world leaves it. -/
theorem foldl_eq_self {α β : Type} {f : β → α → β} {b : β} (h : ∀ a, f b a = b) (xs : List α) : xs.foldl f b = b := by
  induction xs with
  | nil => rfl
  | cons a xs ih => rw [List.foldl_cons, h, ih]

theorem World.AtRest.settleRound (h : w.AtRest e) : World.settleRound e w = World.judge e w := by
  have hwaits : (places 4).foldl (World.finishWaits e) w = w :=
    foldl_eq_self (fun l => World.finishWaits_of_empty (by rw [h.lanes l]; rfl) (by rw [h.lanes l]; rfl)) _
  have hdue : (places 4).foldl (fun w l => if (w.due.get l).recompute then World.recompute e w l else w) w = w :=
    foldl_eq_self (fun l => if_neg (by rw [h.due l]; decide)) _
  unfold World.settleRound
  dsimp only
  rw [hwaits, hdue]
  exact foldl_eq_self (fun l => World.applyLevel_same (by rw [h.judge.levels_eq l, h.judge.lanes l]; rfl)) _

theorem World.AtRest.not_unsettled (h : w.AtRest e) : w.unsettled e = false := by
  unfold World.unsettled
  rw [List.any_eq_false]
  intro l _
  simp [h.due l, h.lanes l, h.levels_eq l, LaneDue.clear, LaneRec.reset]

/-- A part at rest is settled by judging it. -/
theorem World.AtRest.settle (h : w.AtRest e) : World.settle e w = World.judge e w := by
  have hlanes : (World.judge e w).lanes = w.lanes := by
    rw [World.judge_frame]
  unfold World.settle World.settleRounds
  dsimp only
  rw [h.settleRound, h.judge.not_unsettled, hlanes]
  simp

end AtRest

/-- While RESET_N is low no pulse is driven. -/
theorem State.drivePulse_of_reset {s : State} (hr : s.pins.reset = true) : s.drivePulse = s := by
  unfold State.drivePulse
  dsimp only
  rw [if_neg (by simp [hr])]

/-! ### Warm reset (R177, R191, R208) -/

/-- The frames that bring a station into step: none where it is not PRESENT. -/
def Station.stepFrames (s : Station) : List (List Byte) :=
  if s.present then [linkFrame 0x13#8 [], linkFrame 0x15#8 [], linkFrame 0x17#8 []] else []

theorem World.stepIn_eq (w : World) (st : Fin 6) : w.stepIn st = { w with out := { w.out with
    station := w.out.station ++ (w.stations.get st).stepFrames.map (fun b => (st, b)) } } := by
  unfold World.stepIn Station.stepFrames
  split
  · simp [World.sendClearStandby, World.sendClearGo, World.sendCall, World.sendStation]
  · simp

theorem World.foldl_stepIn (w : World) (sts : List (Fin 6)) : sts.foldl World.stepIn w = { w with out := { w.out with
    station := w.out.station ++ sts.flatMap (fun st => (w.stations.get st).stepFrames.map (fun b => (st, b))) } } := by
  induction sts generalizing w with
  | nil => simp
  | cons st sts ih => rw [List.foldl_cons, ih, World.stepIn_eq]; simp

/-- What of a list, put together under keys that differ, stands under one of them. -/
theorem filter_flatMap_key {α β : Type} [DecidableEq α] (g : α → List β) {xs : List α} (hn : xs.Nodup) (a : α) :
    ((xs.flatMap (fun x => (g x).map (fun b => (x, b)))).filter (fun y => decide (y.1 = a))).map (·.2) =
      if a ∈ xs then g a else [] := by
  induction xs with
  | nil => rfl
  | cons x xs ih =>
    obtain ⟨hx, hn⟩ := List.nodup_cons.mp hn
    rw [List.flatMap_cons, List.filter_append, List.map_append, ih hn, List.filter_map, List.map_map]
    by_cases hxa : x = a
    · subst hxa
      simp [hx, Function.comp_def]
    · simp [hxa, Ne.symm hxa, Function.comp_def]

/-- The settings and the reference as warm reset leaves them. -/
def Env.warm (e : Env) : Env := { ref := e.ref.warm, cfg := e.cfg.warm }

theorem Dev.warm_atRest (d : Dev) (fc : Fc) (sts : List (Fin 6)) :
    (sts.foldl World.stepIn (d.world.warm fc)).AtRest d.env.warm := by
  rw [World.foldl_stepIn]
  exact ⟨fun l => Tbl.get_fill _ l, fun l => Tbl.get_fill _ l,
    fun l i => (congrArg (Tbl.get · i) (Tbl.get_fill (Tbl.fill 7 0) l)).trans (Tbl.get_fill 0 i)⟩

/-- Nothing is left to settle after warm reset but the judgements. -/
theorem Dev.warm_judge (d : Dev) : d.warm = Dev.mk d.env.warm
    (World.judge d.env.warm ((places 6).foldl World.stepIn (d.world.warm d.env.ref.warm.fc))) := by
  have hsettle := (d.warm_atRest d.env.ref.warm.fc (places 6)).settle
  unfold Env.warm at hsettle ⊢
  unfold Dev.warm Dev.settle
  dsimp only
  rw [hsettle]

theorem Dev.warm_env (d : Dev) : d.warm.env = d.env.warm := by rw [Dev.warm_judge]

/-- The part after warm reset: its records as they are reset, the stations in step, the conditions judged. -/
theorem Dev.warm_world (d : Dev) : d.warm.world = { d.world.warm d.env.ref.warm.fc with
    monitor := d.warm.world.monitor, pulse := d.warm.world.pulse, due := d.warm.world.due
    out := { d.world.out with
      station := d.world.out.station ++
        (places 6).flatMap (fun st => ((d.world.warm d.env.ref.warm.fc).stations.get st).stepFrames.map (fun b => (st, b))) } } := by
  rw [Dev.warm_judge]
  dsimp only
  rw [World.judge_frame, World.foldl_stepIn]
  rfl

theorem Dev.warm_store (d : Dev) : d.warm.world.store = d.world.store.warm := by rw [Dev.warm_world]; rfl
theorem Dev.warm_lane (d : Dev) (l : Fin 4) : d.warm.world.lane l = .reset := by rw [Dev.warm_world]; exact Tbl.get_fill _ l
theorem Dev.warm_map (d : Dev) : d.warm.world.map = d.world.map.map MapEntry.warm := by rw [Dev.warm_world]; rfl
theorem Dev.warm_rolls (d : Dev) : d.warm.world.rolls = Tbl.fill 64 none := by rw [Dev.warm_world]; rfl
theorem Dev.warm_ports (d : Dev) : d.warm.world.ports = d.world.ports.map Port.warm := by rw [Dev.warm_world]; rfl
theorem Dev.warm_stations (d : Dev) : d.warm.world.stations = d.world.stations.map Station.warm := by rw [Dev.warm_world]; rfl

theorem Dev.warm_out (d : Dev) : d.warm.world.out.station = d.world.out.station ++
    (places 6).flatMap (fun st => (d.world.stations.get st).stepFrames.map (fun b => (st, b))) := by
  rw [Dev.warm_world]
  simp [World.warm, Station.stepFrames, Station.warm]

theorem Dev.warm_refLost (d : Dev) : d.warm.world.monitor.refLost.active = d.env.isRefLost := by
  rw [Dev.warm_judge]
  dsimp only
  rw [World.judge_refLost, Inst.active_judge]
  rfl

theorem Dev.warm_stationLost (d : Dev) (l : Fin 4) : (d.warm.world.monitor.stationLost.get l).active = d.world.isStationLost l := by
  rw [Dev.warm_judge]
  dsimp only
  rw [World.judge_stationLost, World.foldl_stepIn]
  simp [World.isStationLost, World.warm, Tbl.map, Station.warm, Function.comp_def]
  rfl

/-- Settles O8: warm reset leaves a part at rest, which settling only judges. -/
theorem warmResetKeepsTheClockAndTheMap : Obligations.WarmResetKeepsTheClockAndTheMap := by
  refine ⟨fun s hr => ?_, fun s hr => ?_⟩
  · have hstays : s.quiet.warm = s.quiet := if_pos hr
    have hlow : s.quiet.drivePulse = s.quiet := State.drivePulse_of_reset hr
    exact congrArg Host.Outcome.next ((congrArg State.drivePulse hstays).trans hlow)
  · have hwarm : s.quiet.warm =
        { s.quiet with ctl := .reset, dev := s.begun.warm, pins := { s.pins with reset := true } } := if_neg (by simp [hr])
    have hrun : exec .warmReset s = .next _ := congrArg Host.Outcome.next
      ((congrArg State.drivePulse hwarm).trans (State.drivePulse_of_reset rfl))
    have hstore := Dev.warm_store s.begun
    have hreset : ∀ {n : Nat} {α : Type} (a : α) (i : Fin n), (Tbl.fill n a).get i = a := Tbl.get_fill
    have henv := Dev.warm_env s.begun
    refine ⟨_, hrun, rfl, rfl, ?_, ?_, ?_, fun l => ⟨?_, ?_, Dev.warm_lane _ l, ?_, ?_, ?_, ?_⟩, ?_, ?_, ?_, ?_,
      fun n => ?_, fun n => ?_, fun p => ?_, fun st => ?_, ?_, fun l => ?_, fun st => ?_, rfl⟩ <;> dsimp only
    · rw [hstore]; rfl
    · rw [hstore]; rfl
    · rw [hstore]; rfl
    · rw [hstore]; exact hreset _ l
    · rw [hstore]; exact hreset _ l
    · rw [henv]; rfl
    · rw [henv]; exact hreset _ l
    · rw [henv]; rfl
    · rw [henv]; rfl
    · rw [henv]; rfl
    · rw [henv]; rfl
    · rw [henv]; rfl
    · rw [henv]; rfl
    · rw [Dev.warm_map, Tbl.get_map]; rfl
    · rw [Dev.warm_rolls]; exact hreset _ n
    · rw [Dev.warm_ports, Tbl.get_map]; rfl
    · rw [Dev.warm_stations, Tbl.get_map]; rfl
    · rw [Dev.warm_refLost, Env.isRefLost_iff]; rfl
    · rw [Dev.warm_stationLost, World.isStationLost_iff]; rfl
    · rw [Dev.warm_out]
      exact (filter_flatMap_key (fun st => (s.begun.world.stations.get st).stepFrames) (List.nodup_finRange 6) st).trans (if_pos (List.mem_finRange st))

end Sys2Proof.Machine
end

section
/-! The reference: its pulses, its timers and the frame arrivals they bring (R53, R55 to R58, R65, R66, R68). -/
namespace Sys2Proof.Machine

-- One proof is checked at a time: the tests above leave little memory for proofs side by side.
set_option Elab.async false

/-! ### The settings and CLOCK_SLIP through a frame arrival (R66, R76) -/

theorem Dev.arrive_cfg (d : Dev) (r : RefUnit) (label : Option Label) : (d.arrive r label).env.cfg =
    (r.arrive label).shift.elim d.env.cfg d.env.cfg.shift := by
  unfold Dev.arrive
  extract_lets k d1 d2 d3
  have h2 : d2.env.cfg = k.shift.elim d.env.cfg d.env.cfg.shift := by
    unfold d2
    split
    · next hs => rw [hs, Dev.askHardOuts_env]; rfl
    · next hs => rw [hs]; rfl
  have h3 : d3.env.cfg = d2.env.cfg := by unfold d3; split <;> rfl
  exact h3.trans h2

theorem State.arrival_cfg (s : State) (r : RefUnit) (label : Option Label) : (s.arrival r label).dev.env.cfg =
    (r.arrive label).shift.elim s.dev.env.cfg s.dev.env.cfg.shift := by
  rw [State.arrival, State.arrivalWith, State.runTasks_env]
  exact Dev.arrive_cfg _ r label

/-- Nothing but the Reference Unit's own work moves CLOCK_SLIP at a frame arrival. -/
theorem arriving_slip (i : Inst) : Arriving (fun w => w.monitor.clockSlip = i) where
  store _ hw _ := hw
  lane _ _ hw _ := hw
  port _ _ hw _ := hw
  entry _ _ hw _ := hw
  others hw _ _ _ _ hs := hs.trans hw

theorem Dev.arrive_slip (d : Dev) {r : RefUnit} {label : Option Label} (hk : (r.arrive label).slipped = true) :
    (d.arrive r label).world.monitor.clockSlip = d.world.monitor.clockSlip.latch := by
  unfold Dev.arrive
  extract_lets k d1 d2 d3
  have h2 : d2.world.monitor.clockSlip = d.world.monitor.clockSlip := by
    unfold d2
    split
    · exact (arriving_slip _).askHardOuts rfl
    · rfl
  refine (arriving_slip _).tick _ ?_
  unfold d3
  rw [if_pos hk]
  show (World.latchSlip d2.env d2.world).monitor.clockSlip = _
  rw [World.latchSlip, (World.notice_latch ..).1, ← h2]

theorem State.arrival_slip (s : State) {r : RefUnit} {label : Option Label} (hk : (r.arrive label).slipped = true) :
    (s.arrival r label).dev.world.monitor.clockSlip = s.dev.world.monitor.clockSlip.latch := by
  have hleft : (s.runTasks Config.blockChoice s.dev.world.leftTasks).dev.world.monitor.clockSlip = s.dev.world.monitor.clockSlip :=
    (arriving_slip _).runTasks _ _ rfl
  rw [State.arrival, State.arrivalWith]
  refine (arriving_slip _).runTasks _ _ ?_
  exact (Dev.arrive_slip _ hk).trans (congrArg Inst.latch hleft)

/-! ### What the frame arrival makes of the clock (R53, R65, R66, R68) -/

section Arrive
variable (r : RefUnit) {label : Option Label}

theorem RefUnit.arrive_pending {x : Label} {n : Nat} (hx : r.pendingLabel = some x) (hn : r.rate.read x = some n) :
    r.arrive label =
      { ref := { r with fc := r.fc + 1, t := n, mismatch := 0, pendingLabel := none }
        shift := some (r.rate.shift ((n : Int) - r.advanced)), slipped := false } := by
  have hcount : r.pendingCount x = n := by rw [RefUnit.pendingCount, hn]
  simp only [RefUnit.arrive, hx, hcount]

theorem RefUnit.arrive_plain (hp : r.pendingLabel = none) (hc : r.labelCheck = false ∨ label = none) :
    r.arrive label = { ref := { r with fc := r.fc + 1, t := r.advanced }, shift := none, slipped := false } := by
  simp only [RefUnit.arrive, hp, RefUnit.checkLabel]
  rcases hc with hc | rfl
  · simp [hc]
  · simp

variable {x : Label} {n : Nat} (hp : r.pendingLabel = none) (hc : r.labelCheck = true) (hx : r.rate.read x = some n)
include hp hc hx

theorem RefUnit.arrive_match (hn : n = r.advanced) : r.arrive (some x) =
    { ref := { r with fc := r.fc + 1, t := r.advanced, mismatch := 0 }, shift := none, slipped := false } := by
  simp [RefUnit.arrive, hp, RefUnit.checkLabel, hc, hx, hn]

theorem RefUnit.arrive_mismatch (hn : n ≠ r.advanced) (hm : r.mismatch + 1 < r.slipCount) : r.arrive (some x) =
    { ref := { r with fc := r.fc + 1, t := r.advanced, mismatch := min 15 (r.mismatch + 1) }, shift := none
      slipped := false } := by
  simp [RefUnit.arrive, hp, RefUnit.checkLabel, hc, hx, hn, Nat.not_le.mpr hm]

theorem RefUnit.arrive_slip (hn : n ≠ r.advanced) (hm : r.slipCount ≤ r.mismatch + 1) : r.arrive (some x) =
    { ref := { r with fc := r.fc + 1, t := n, mismatch := 0 }, shift := some (r.rate.shift ((n : Int) - r.advanced))
      slipped := true } := by
  simp [RefUnit.arrive, hp, RefUnit.checkLabel, hc, hx, hn, hm]

end Arrive

theorem Settings.shift_get (c : Settings) (delta : Int) (l : Fin 4) : (c.shift delta).hardOuts.get l =
    (c.hardOuts.get l).map (fun h => { h with habs := h.habs - BitVec.ofInt 32 delta }) := Tbl.get_map _ _ _

/-! ### The sources (R55 to R58) -/

theorem exec_internalSourceExpiry {s : State} {x : SourceFrom} (hi : s.dev.env.ref.internal = some x) :
    exec .internalSourceExpiry s =
      .next (s.quiet.arrival { s.dev.env.ref with internal := some .ownExpiry } none).drivePulse := by
  have hexpiry : s.quiet.sourceExpiry = s.quiet.arrival { s.dev.env.ref with internal := some .ownExpiry } none := by
    rw [State.sourceExpiry, show s.quiet.dev.env.ref.internal = some x from hi]
    rfl
  exact congrArg (fun t => Host.Outcome.next (State.drivePulse t)) hexpiry

section Pulse
variable {s : State} {since : Nat} {x : Option Label}

theorem RefUnit.early_eq (r : RefUnit) (since : Nat) :
    r.early since = true ↔ r.pulseAccepted = true ∧ since * 2 < r.rate.period := by simp [RefUnit.early]

theorem State.pulse_ignored (h : s.dev.env.ref.enabled = false ∨
    (s.dev.env.ref.early since = true ∧ s.dev.env.ref.state ≠ .acquiring)) : s.pulse since x = s := by
  unfold State.pulse
  rcases h with h | ⟨hearly, hs⟩
  · simp [h]
  · simp [hearly, hs]

theorem State.pulse_early (he : s.dev.env.ref.enabled = true) (hearly : s.dev.env.ref.early since = true)
    (hs : s.dev.env.ref.state = .acquiring) : s.pulse since x = s.refEvent { s.dev.env.ref with acquired := 0 } := by
  unfold State.pulse
  simp only [he, hearly, hs]
  rfl

/-- An accepted pulse, by whether it is a frame arrival. -/
theorem State.pulse_accepted (he : s.dev.env.ref.enabled = true) (hearly : s.dev.env.ref.early since = false) :
    s.pulse since x = if s.dev.env.ref.acceptPulse.2 then s.arrival s.dev.env.ref.acceptPulse.1 x
      else s.refEvent s.dev.env.ref.acceptPulse.1 := by
  unfold State.pulse
  simp only [he, hearly]
  rfl

/-- What a pulse makes of the part is what the command makes of it. -/
theorem exec_referencePulse {t : State} (h : s.quiet.pulse since x = t) : exec (.referencePulse since x) s = .next t.drivePulse :=
  congrArg (fun t => Host.Outcome.next (State.drivePulse t)) h

end Pulse

section MissingPulse
variable {s : State}

theorem State.missPulse_idle (hm : s.dev.env.ref.missingTimer = false) : s.missPulse = s := by
  simp [State.missPulse, hm]

theorem State.missPulse_acquiring (hm : s.dev.env.ref.missingTimer = true) (hs : s.dev.env.ref.state = .acquiring) :
    s.missPulse = s.refEvent { s.dev.env.ref with state := .freeRun, acquired := 0, missingTimer := false } := by
  simp [State.missPulse, hm, RefUnit.missPulse, hs]

theorem State.missPulse_locked (hm : s.dev.env.ref.missingTimer = true) (hs : s.dev.env.ref.state = .locked) :
    s.missPulse = s.arrival { s.dev.env.ref with
      state := .freeRun, acquired := 0, missingTimer := false, mismatch := 0, internal := some .missingPulse } none := by
  simp [State.missPulse, hm, RefUnit.missPulse, hs]

end MissingPulse

theorem exec_missingPulseTimer {s t : State} (h : s.quiet.missPulse = t) : exec .missingPulseTimer s = .next t.drivePulse :=
  congrArg (fun t => Host.Outcome.next (State.drivePulse t)) h

/-- Settles O24: each row of the table is one branch of the pulse's or the timer's work. -/
theorem pulsesMoveTheReferenceState : Obligations.PulsesMoveTheReferenceState := by
  intro s since x r early accepted advanced
  have hyes : early → r.early since = true := (r.early_eq since).mpr
  have hno : ¬early → r.early since = false := fun h => Bool.eq_false_iff.mpr fun hy => h ((r.early_eq since).mp hy)
  have haccept : ∀ {b : RefUnit}, r.enabled = true → ¬early → r.acceptPulse = (b, false) →
      ∃ t, exec (.referencePulse since x) s = .next t ∧ t.dev.env.ref = b := by
    intro b he hne hb
    refine ⟨_, exec_referencePulse (State.pulse_accepted he (hno hne)), ?_⟩
    rw [show s.quiet.dev.env.ref.acceptPulse = (b, false) from hb, State.drivePulse_env]
    rfl
  have harrive : ∀ {b : RefUnit}, r.enabled = true → ¬early → r.acceptPulse = (b, true) → b.pendingLabel = none →
      (b.labelCheck = false ∨ x = none) →
      ∃ t, exec (.referencePulse since x) s = .next t ∧ t.dev.env.ref = { b with fc := b.fc + 1, t := b.advanced } := by
    intro b he hne hb hp hc
    refine ⟨_, exec_referencePulse (State.pulse_accepted he (hno hne)), ?_⟩
    rw [show s.quiet.dev.env.ref.acceptPulse = (b, true) from hb, State.drivePulse_env, if_pos rfl, State.arrival_ref,
      b.arrive_plain hp hc]
  refine ⟨fun h => ?_, fun he hy hs => ?_, fun he hn hs => ?_, fun he hn hs ha => ?_, fun he hn hs ha hp hc => ?_,
    fun he hn hs hp hc => ?_, fun hm => ?_, fun hm hs => ?_, fun hm hs hp => ?_⟩
  · exact exec_referencePulse (State.pulse_ignored (h.imp id fun ⟨hy, hs⟩ => ⟨hyes hy, hs⟩))
  · refine ⟨_, exec_referencePulse (State.pulse_early he (hyes hy) hs), ?_⟩
    rw [State.drivePulse_env]
    rfl
  · exact haccept he hn (by simp [RefUnit.acceptPulse, hs, accepted])
  · exact haccept he hn (by simp [RefUnit.acceptPulse, hs, ha, accepted])
  · exact harrive he hn (b := { accepted with acquired := 16, state := .locked, internal := none })
      (by simp [RefUnit.acceptPulse, hs, ha, accepted]) hp (.inl hc)
  · exact harrive he hn (b := accepted) (by simp [RefUnit.acceptPulse, hs, accepted]) hp hc
  · exact exec_missingPulseTimer (State.missPulse_idle hm)
  · refine ⟨_, exec_missingPulseTimer (State.missPulse_acquiring hm hs), ?_⟩
    rw [State.drivePulse_env]
    rfl
  · refine ⟨_, exec_missingPulseTimer (State.missPulse_locked hm hs), ?_⟩
    rw [State.drivePulse_env, State.arrival_ref, RefUnit.arrive_plain _ (by exact hp) (.inr rfl)]
    rfl

/-- Settles O23: the source's frame arrival, and the three outcomes of the label check. -/
theorem frameArrivalsMoveTheClock : Obligations.FrameArrivalsMoveTheClock := by
  refine ⟨?source, ?pulse⟩
  case source =>
    intro s r next
    refine ⟨fun hi => ?_, fun hi => ?_⟩
    · have hstays : s.quiet.sourceExpiry = s.quiet := by rw [State.sourceExpiry, show s.quiet.dev.env.ref.internal = none from hi]
      exact congrArg (fun t => Host.Outcome.next (State.drivePulse t)) hstays
    · obtain ⟨src, hsrc⟩ := Option.isSome_iff_exists.mp hi
      refine ⟨_, exec_internalSourceExpiry hsrc, by rw [State.drivePulse_ctl]; rfl, ?_, fun hp => ⟨?_, ?_⟩,
        fun x n hp hx => ⟨?_, fun l => ?_⟩⟩
      · rw [State.drivePulse_env, State.arrival_ref, RefUnit.arrive_fc]
      · rw [State.drivePulse_env, State.arrival_cfg, RefUnit.arrive_plain { r with internal := some .ownExpiry } hp (.inr rfl)]
        rfl
      · rw [State.drivePulse_env, State.arrival_ref, RefUnit.arrive_plain { r with internal := some .ownExpiry } hp (.inr rfl)]
        rfl
      · rw [State.drivePulse_env, State.arrival_ref, RefUnit.arrive_pending { r with internal := some .ownExpiry } hp hx]
      · rw [State.drivePulse_env, State.arrival_cfg, RefUnit.arrive_pending { r with internal := some .ownExpiry } hp hx]
        exact Settings.shift_get _ _ _
  case pulse =>
    intro s since x n r next advanced he hs ha hper hc hp hx
    have hlate : r.early since = false := Bool.eq_false_iff.mpr fun hy => by
      have := ((r.early_eq since).mp hy).2
      omega
    have haccept : r.acceptPulse = ({ r with missingTimer := true }, true) := by
      simp only [RefUnit.acceptPulse, hs]
      rw [← ha]
    have hrun : s.quiet.pulse since (some x) = s.quiet.arrival { r with missingTimer := true } (some x) := by
      rw [State.pulse_accepted (s := s.quiet) he hlate, show s.quiet.dev.env.ref.acceptPulse = _ from haccept]
      rfl
    refine ⟨_, exec_referencePulse hrun, fun hn => ?_, fun hn hm => ?_, fun hn hm => ⟨?_, fun l => ?_, ?_⟩⟩
    · rw [State.drivePulse_env, State.arrival_ref, State.arrival_cfg, RefUnit.arrive_match { r with missingTimer := true } hp hc hx hn]
      exact ⟨rfl, rfl⟩
    · rw [State.drivePulse_env, State.arrival_ref, State.arrival_cfg, RefUnit.arrive_mismatch { r with missingTimer := true } hp hc hx hn hm]
      exact ⟨rfl, rfl⟩
    · rw [State.drivePulse_env, State.arrival_ref, RefUnit.arrive_slip { r with missingTimer := true } hp hc hx hn hm]
    · rw [State.drivePulse_env, State.arrival_cfg, RefUnit.arrive_slip { r with missingTimer := true } hp hc hx hn hm]
      exact Settings.shift_get _ _ _
    · rw [State.drivePulse_monitor, State.arrival_slip _ (by rw [RefUnit.arrive_slip { r with missingTimer := true } hp hc hx hn hm])]
      exact ⟨rfl, rfl⟩

end Sys2Proof.Machine
end

section
/-! RATE, REFCFG, CLOCKSET, HARDOUT and SUBST (R57, R61, R67, R68, R73, R75, R76, R90). -/
namespace Sys2Proof.Machine

-- One proof is checked at a time: the tests above leave little memory for proofs side by side.
set_option Elab.async false

section Handlers
variable {d : Dev} {p : List Byte} {n : Nat}

/-! ### RATE (R61) -/

theorem rate?_above (h : 3 < n) : rate? n = none := by
  obtain ⟨m, rfl⟩ := Nat.exists_eq_add_of_lt h
  rw [show 3 + m + 1 = m + 4 by omega]
  rfl

theorem rateHandler_badArg (hp : readAll readByte p = some n) (hn : 3 < n) : rateHandler d p = .error .badArg := by
  simp [rateHandler, fields_eq hp, rate?_above hn]

variable {rate : Rate} (hp : readAll readByte p = some n) (hn : rate? n = some rate)
include hp hn

theorem rateHandler_busy (hb : ∃ l, (d.world.lane l).state ≠ .idle) : rateHandler d p = .error .busy := by
  have hall : (places 4).all (fun l => decide ((d.world.lane l).state = .idle)) = false := by
    simpa [places] using hb
  simp [rateHandler, fields_eq hp, hn, hall]

theorem rateHandler_idle (hi : ∀ l, (d.world.lane l).state = .idle) : rateHandler d p =
    if rate = d.env.ref.rate then .ok (.same []) else
      .ok (.done ((d.withRef (d.env.ref.toRate rate)).withCfg
        (d.env.cfg.toRate d.env.ref.rate (d.env.ref.toRate rate))).askHardOuts (fun _ => [])) := by
  have hall : (places 4).all (fun l => decide ((d.world.lane l).state = .idle)) = true := by simpa using fun l _ => hi l
  simp [rateHandler, fields_eq hp, hn, hall]

end Handlers

/-- Asking for the recompute of lanes moves what is due alone. -/
theorem Dev.askHardOuts_world (d : Dev) : d.askHardOuts.world = { d.world with due := d.askHardOuts.world.due } :=
  Dev.foldl_world (P := fun w => w = { d.world with due := w.due }) (fun d' l hd => by
    split
    · exact congrArg (fun w : World => w.setDue l { d'.world.due.get l with recompute := true }) hd
    · exact hd) _ rfl

/-- Settles O21: the handler's answers, and the two resets. -/
theorem rateConvertsTheClock : Obligations.RateConvertsTheClock := by
  refine ⟨fun s tag p rest n hs hp hn => hs.refused (rateHandler_badArg hp hn), ?converts, rfl, fun s t ht => ?warm⟩
  case converts =>
    intro s tag p rest n rate r scaled t' hs hp hn
    refine ⟨fun hb => hs.refused (rateHandler_busy (d := s.begun) hp hn hb), fun hi hsame => ?_, fun hi hne => ?_⟩
    · exact hs.same ((rateHandler_idle (d := s.begun) hp hn hi).trans (if_pos hsame))
    · refine ⟨_, hs.done ((rateHandler_idle (d := s.begun) hp hn hi).trans (if_neg hne)), ?_, ?_, fun l => ?_, Dev.askHardOuts_world _⟩
      · rw [Dev.askHardOuts_env]; rfl
      · rw [Dev.askHardOuts_env]; rfl
      · rw [Dev.askHardOuts_env]
        exact Tbl.get_map _ _ _
  case warm =>
    rw [State.run_eq (f := State.warm) ht, State.drivePulse_env]
    unfold State.warm
    split <;> rfl

/-! ### REFCFG and CLOCKSET (R57, R67, R68) -/

theorem refcfgHandler_eq {d : Dev} {p : List Byte} {q : RefcfgReq} (hp : readAll readRefcfg p = some q) :
    refcfgHandler d p = .ok (.done (d.withRef (d.env.ref.configure q)) (fun _ => [])) := by
  exact bind_of_ok (fields_eq hp)

/-- What a REFCFG makes of the Reference Unit: one that disables it frees it to run. -/
theorem RefUnit.configure_cases (r : RefUnit) (q : RefcfgReq) :
    ((r.enabled = true ∧ q.enable = false) ∧ r.configure q = { r with
      enabled := q.enable, labelCheck := q.check, slipCount := max 1 (min 15 q.slipCount)
      state := .freeRun, acquired := 0, missingTimer := false
      mismatch := if q.check ≠ r.labelCheck ∨ r.state = .locked then 0 else r.mismatch
      internal := if r.state = .locked then some .lastAcceptedPulse else r.internal }) ∨
    (¬(r.enabled = true ∧ q.enable = false) ∧ r.configure q = { r with
      enabled := q.enable, labelCheck := q.check, slipCount := max 1 (min 15 q.slipCount)
      mismatch := if q.check ≠ r.labelCheck then 0 else r.mismatch }) := by
  unfold RefUnit.configure
  by_cases hoff : r.enabled = true ∧ q.enable = false
  · refine .inl ⟨hoff, ?_⟩
    by_cases hc : q.check = r.labelCheck <;> simp [hoff, hc, RefUnit.disable]
  · have hkeep : (r.enabled && !q.enable) = false := by simpa using hoff
    refine .inr ⟨hoff, ?_⟩
    by_cases hc : q.check = r.labelCheck <;> simp [hkeep, hc]

section Clockset
variable {d : Dev} {p : List Byte} {x : Label} (hp : readAll readLabel p = some x)
include hp

theorem clocksetHandler_eq (hx : d.env.ref.rate.reads x = true) : clocksetHandler d p =
    .ok (.write (d.withRef { d.env.ref with pendingLabel := some (d.env.ref.rate.clampLabel x) }) []) := by
  exact bind_two_of_ok (fields_eq hp) (want_eq hx) rfl

theorem clocksetHandler_badArg (hx : d.env.ref.rate.reads x = false) : clocksetHandler d p = .error .badArg := by
  simp only [clocksetHandler, fields_eq hp, Except.ok_bind, hx, want_false, Except.error_bind]

end Clockset

/-! ### HARDOUT and SUBST (R73, R75, R90) -/

/-- A distance ahead by less than half the counter's range is read back as it is (R54). -/
theorem fcDist_ahead (fc : Fc) {n : Nat} (h : n < 2147483648) : fcDist fc (fc + BitVec.ofNat 32 n) = n := by
  have hsub : fc + BitVec.ofNat 32 n - fc = BitVec.ofNat 32 n := by
    rw [BitVec.add_comm, BitVec.add_sub_cancel]
  have hnat : (BitVec.ofNat 32 n).toNat = n := by
    rw [BitVec.toNat_ofNat]
    omega
  rw [fcDist, hsub, BitVec.toInt_eq_toNat_of_lt (by rw [hnat]; omega), hnat]

theorem Rate.day_lt (r : Rate) : r.day < 2147483648 := by induction r <;> decide

/-- A hard out is resolved to its label's next occurrence. -/
theorem resolveHardOut_next (r : RefUnit) {x : Label} (hx : r.rate.reads x = true) :
    let h := resolveHardOut r (r.rate.clampLabel x)
    0 ≤ fcDist r.fc h.habs ∧ fcDist r.fc h.habs < r.rate.day ∧
      ((r.t : Int) + fcDist r.fc h.habs) % r.rate.day = r.rate.countOf h.label := by
  have hpos := r.rate.day_pos
  have hcount := (Rate.label_countOf (Rate.clampLabel_reads hx).1 (Rate.clampLabel_reads hx).2).1
  have hwrap : ((r.rate.wrap ((r.rate.countOf (r.rate.clampLabel x) : Int) - r.t) : Nat) : Int) =
      ((r.rate.countOf (r.rate.clampLabel x) : Int) - r.t) % r.rate.day := by
    rw [Rate.wrap, Int.toNat_of_nonneg (Int.emod_nonneg _ (by omega))]
  have hlt := Int.emod_lt_of_pos ((r.rate.countOf (r.rate.clampLabel x) : Int) - r.t) (b := r.rate.day) (by omega)
  have hdist : fcDist r.fc (resolveHardOut r (r.rate.clampLabel x)).habs =
      ((r.rate.countOf (r.rate.clampLabel x) : Int) - r.t) % r.rate.day := by
    have hday := r.rate.day_lt
    rw [resolveHardOut, fcDist_ahead _ (by omega), hwrap]
  intro h
  rw [hdist]
  refine ⟨Int.emod_nonneg _ (by omega), hlt, ?_⟩
  rw [Int.add_emod_emod, show (r.t : Int) + (r.rate.countOf (r.rate.clampLabel x) - r.t) = r.rate.countOf (r.rate.clampLabel x)
    by omega]
  exact Int.emod_eq_of_lt (by omega) (by exact_mod_cast hcount)

/-- The hard out that a HARDOUT's field gives. -/
def Field.hardOut (r : RefUnit) : Field Label → Option HardOut
  | .given y => some (resolveHardOut r (r.rate.clampLabel y))
  | _ => none

theorem hardoutHandler_eq {d : Dev} {p : List Byte} {n : Nat} {x : Field Label} {l : Fin 4}
    (hp : readAll (readLaneField readLabel) p = some (n, x)) (hl : place? 4 n = some l)
    (hx : x = .word ∨ ∃ y, x = .given y ∧ d.env.ref.rate.reads y = true) : hardoutHandler d p =
      .ok (.done ((d.withCfg (d.env.cfg.setHardOut l (x.hardOut d.env.ref))).askRecompute l)
        (fun d => hardOutBytes d.env (d.env.cfg.hardOuts.get l))) := by
  rcases hx with rfl | ⟨y, rfl, hy⟩
  · exact (bind_of_ok (fields_eq hp)).trans (bind_of_ok (numbered_eq hl))
  · exact (bind_of_ok (fields_eq hp)).trans (bind_two_of_ok (numbered_eq hl) (want_eq hy) rfl)

/-- The timing substitute that a SUBST's field gives. -/
def Field.substitute : Field Int → Option Int
  | .given v => some (clampDistance v)
  | _ => none

theorem substHandler_eq {d : Dev} {p : List Byte} {n : Nat} {x : Field Int} {l : Fin 4}
    (hp : readAll (readLaneField readSigned) p = some (n, x)) (hl : place? 4 n = some l) (hx : x ≠ .absent) : substHandler d p =
      .ok (.done ((d.withCfg (d.env.cfg.setLaneCfg l { d.env.cfg.lanes.get l with substitute := x.substitute })).askRecompute l)
        (fun d => optional signed (d.env.cfg.lanes.get l).substitute)) := by
  induction x with
  | absent => exact absurd rfl hx
  | given v => exact (bind_of_ok (fields_eq hp)).trans (bind_of_ok (numbered_eq hl))
  | word => exact (bind_of_ok (fields_eq hp)).trans (bind_of_ok (numbered_eq hl))

/-- A lane asked for is recomputed within the event. -/
theorem Dev.settle_askRecompute (d : Dev) (l : Fin 4) :
    ((d.askRecompute l).settle.world.timing.get l).computedAt = d.env.ref.fc :=
  World.settle_computedAt (by simp [Dev.askRecompute, World.askRecompute])

/-- Settles O22, by the four handlers. -/
theorem clockAndTargetRequestsWriteTheirSettings : Obligations.ClockAndTargetRequestsWriteTheirSettings := by
  refine ⟨?refcfg, ?clockset, ?hardout, ?subst⟩
  case refcfg =>
    intro s tag p rest q r hs hp
    refine ⟨_, hs.done (refcfgHandler_eq (d := s.begun) hp), rfl, rfl, ?_⟩
    rcases r.configure_cases q with ⟨hoff, h⟩ | ⟨hoff, h⟩
    · rw [show (s.begun.withRef (s.begun.env.ref.configure q)).env.ref = _ from h, if_pos hoff]
      refine ⟨rfl, rfl, rfl, rfl, rfl, rfl, rfl, ?_, rfl, rfl, rfl, rfl⟩
      simp [hoff]
    · rw [show (s.begun.withRef (s.begun.env.ref.configure q)).env.ref = _ from h, if_neg hoff]
      refine ⟨rfl, rfl, rfl, rfl, rfl, rfl, rfl, ?_, rfl, rfl, rfl, rfl⟩
      simp [← and_assoc, hoff]
  case clockset =>
    intro s tag p rest x r hs hp
    exact ⟨fun hx => hs.write (clocksetHandler_eq (d := s.begun) hp hx),
      fun hx => hs.refused (clocksetHandler_badArg (d := s.begun) hp hx)⟩
  case hardout =>
    intro s tag p rest n x l r hs hp hl hx
    refine ⟨_, hs.done (hardoutHandler_eq (d := s.begun) hp hl hx), rfl, rfl, fun l' hl' => Tbl.get_set_ne _ _ (Ne.symm hl'),
      ?_, ?_, rfl, Dev.settle_askRecompute _ l⟩
    · rintro rfl
      exact Tbl.get_set_self _ _ _
    · rintro y rfl
      have hy : r.rate.reads y = true := by simpa using hx
      exact ⟨_, Tbl.get_set_self _ _ _, rfl, resolveHardOut_next r hy⟩
  case subst =>
    intro s tag p rest n x l hs hp hl hx
    refine ⟨_, hs.done (substHandler_eq (d := s.begun) hp hl hx), rfl, rfl, fun l' hl' => Tbl.get_set_ne _ _ (Ne.symm hl'),
      (Tbl.get_set_self _ _ _).trans ?_, rfl, Dev.settle_askRecompute _ l⟩
    induction x <;> rfl

end Sys2Proof.Machine
end

section
/-! HOLD and RESUME (R95, R96, R107, R114, R118, R119). -/
namespace Sys2Proof.Machine

-- One proof is checked at a time: the tests above leave little memory for proofs side by side.
set_option Elab.async false

theorem laneStateOf_operator {onAir : Option Item} {r : LaneRec} (hr : r.operator = true) :
    laneStateOf (onAir.map (·.place)) r = match onAir with
      | none => .standby
      | some it => if it.place = .standby then .filling else .held := by
  cases onAir with
  | none => rfl
  | some it => cases hp : it.place <;> simp [laneStateOf, hp, hr]

theorem laneStateOf_no_operator {onAir : Option Item} {r : LaneRec} (hr : r.operator = false) :
    laneStateOf (onAir.map (·.place)) r = match onAir with
      | none => .standby
      | some it => if it.place = .standby then .filling else if r.action then .held else if r.gate then .waiting
          else .running := by
  cases onAir with
  | none => rfl
  | some it => cases hp : it.place <;> simp [laneStateOf, hp, hr]

section Hold
variable {e : Env} {w : World} {l : Fin 4}

/-- A lane's record with OPERATOR set. -/
def World.heldBy (w : World) (l : Fin 4) : LaneRec :=
  { w.lane l with
    operator := true, gate := false, gateDue := none
    state := match w.onAirItem? l with
      | none => .standby
      | some it => if it.place = .standby then .filling else .held }

/-- A lane's record with OPERATOR cleared. -/
def World.resumed (w : World) (l : Fin 4) : LaneRec :=
  { w.lane l with
    operator := false
    state := match w.onAirItem? l with
      | none => .standby
      | some it => if it.place = .standby then .filling else if (w.lane l).action then .held
          else if (w.lane l).gate then .waiting else .running }

theorem World.setOperator_eq (hs : (w.lane l).state ≠ .idle) : w.setOperator l = w.setLane l (w.heldBy l) := by
  rw [World.setOperator, World.modLane_setState hs rfl, World.onAirPlace, laneStateOf_operator rfl]
  rfl

theorem World.onAirItem?_setLane {r : LaneRec} (hr : r.onAir = (w.lane l).onAir) : (w.setLane l r).onAirItem? l = w.onAirItem? l := by
  simp only [World.onAirItem?, World.setLane_lane, if_true, hr]
  rfl

theorem World.autoDue_setLane {r : LaneRec} (hr : r.onAir = (w.lane l).onAir) :
    World.autoDue e (w.setLane l r) l = World.autoDue e w l := by
  rw [World.autoDue, World.autoDue, World.onAirItem?_setLane hr]

/-- RESUME clears OPERATOR; an auto-take already due is evaluated where the lane comes from HELD to RUNNING. -/
theorem World.resume_eq (hs : (w.lane l).state ≠ .idle) : World.resume e w l =
    if (w.lane l).state = .held ∧ (w.resumed l).state = .running ∧ World.autoDue e w l = true
      then World.evalAuto e (w.setLane l (w.resumed l)) l else w.setLane l (w.resumed l) := by
  have hfreed : (w.modLane l (fun r => { r with operator := false })).setState l = w.setLane l (w.resumed l) := by
    rw [World.modLane_setState hs rfl, World.onAirPlace, laneStateOf_no_operator rfl]
    rfl
  unfold World.resume World.testAuto
  dsimp only
  rw [hfreed, World.autoDue_setLane (show (w.resumed l).onAir = (w.lane l).onAir from rfl), World.setLane_lane, if_pos rfl]
  by_cases hheld : (w.lane l).state = .held <;> simp [hheld]

end Hold

section Handlers
variable {d : Dev} {p : List Byte} {n : Nat} {l : Fin 4} (hp : readAll readByte p = some n) (hl : place? 4 n = some l)
include hp hl

theorem laneOnly_eq : laneOnly p = .ok l := by
  exact (bind_of_ok (fields_eq hp)).trans (numbered_eq hl)

theorem holdHandler_idle (hs : (d.world.lane l).state = .idle) : holdHandler d p = .error .wrongState := by
  simp [holdHandler, laneOnly_eq hp hl, hs]

theorem holdHandler_eq (hs : (d.world.lane l).state ≠ .idle) : holdHandler d p =
    if (d.world.lane l).operator then .ok (.same (d.laneBytes l))
    else .ok (.done (d.withWorld (d.world.setOperator l)) (fun d => d.laneBytes l)) := by
  exact bind_two_of_ok (laneOnly_eq hp hl) (want_eq (decide_eq_true hs)) rfl

theorem resumeHandler_idle (hs : (d.world.lane l).state = .idle) : resumeHandler d p = .error .wrongState := by
  simp [resumeHandler, laneOnly_eq hp hl, hs]

theorem resumeHandler_eq (hs : (d.world.lane l).state ≠ .idle) : resumeHandler d p =
    if (d.world.lane l).operator then .ok (.done (d.withWorld (World.resume d.env d.world l)) (fun d => d.laneBytes l))
    else .ok (.same (d.laneBytes l)) := by
  exact bind_two_of_ok (laneOnly_eq hp hl) (want_eq (decide_eq_true hs)) rfl

end Handlers

/-! ### The panel (R114) -/

section Panel
variable {s : State} {l : Fin 4}

theorem State.panelHold_again (hp : s.pins.hold.get l = true) : s.panelHold l = s := by simp [State.panelHold, hp]

theorem State.panelHold_nothing (hp : s.pins.hold.get l = false)
    (hs : (s.dev.world.lane l).state = .idle ∨ (s.dev.world.lane l).operator = true) :
    s.panelHold l = { s with pins := s.pins.line l .hold true } := by
  have hno : s.dev.world.panelHolds l = false := by
    rcases hs with hs | hs <;> simp [World.panelHolds, hs]
  simp [State.panelHold, hp, hno]

theorem State.panelHold_holds (hp : s.pins.hold.get l = false) (hs : (s.dev.world.lane l).state ≠ .idle)
    (ho : (s.dev.world.lane l).operator = false) : s.panelHold l = { s with
      dev := (s.dev.withWorld (s.dev.world.setLane l (s.dev.world.heldBy l))).settle
      pins := s.pins.line l .hold true } := by
  have hyes : s.dev.world.panelHolds l = true := by simp [World.panelHolds, hs, ho]
  unfold State.panelHold
  rw [if_neg (by simp [hp])]
  dsimp only
  rw [if_pos hyes, State.event]
  dsimp only
  rw [World.setOperator_eq hs]
  rfl

theorem exec_panelHold {t : State} (h : s.quiet.panelHold l = t) : exec (.panelHold l) s = .next t.drivePulse :=
  congrArg (fun t => Host.Outcome.next (State.drivePulse t)) h

end Panel

/-- Settles O28, by the handlers and the panel's edge. -/
theorem holdAndResumeMoveOperator : Obligations.HoldAndResumeMoveOperator := by
  intro s tag p rest n l w r held freed hp hl
  refine ⟨fun hs hi => hs.refused (holdHandler_idle (d := s.begun) hp hl hi), fun hs hi ho => ?_, fun hs hi ho => ?_,
    fun hs hi => hs.refused (resumeHandler_idle (d := s.begun) hp hl hi), fun hs hi ho => ?_, fun hs hh ho hrun hdue => ?_,
    fun hs hi ho hno => ?_, fun hp hi ho => ?_, fun hp hor => ?_, fun hp => ?_⟩
  · exact hs.same ((holdHandler_eq (d := s.begun) hp hl hi).trans (if_pos ho))
  · have hheld := holdHandler_eq (d := s.begun) hp hl hi
    rw [if_neg (by simp [show (s.begun.world.lane l).operator = false from ho]), World.setOperator_eq hi] at hheld
    exact hs.done hheld
  · exact hs.same ((resumeHandler_eq (d := s.begun) hp hl hi).trans (if_neg (by simp [show (s.begun.world.lane l).operator = false from ho])))
  · have hi : (s.begun.world.lane l).state ≠ .idle := by rw [show (s.begun.world.lane l).state = .held from hh]; decide
    have hresumed := (resumeHandler_eq (d := s.begun) hp hl hi).trans (if_pos ho)
    rw [World.resume_eq hi, if_pos ⟨hh, hrun, hdue⟩] at hresumed
    exact hs.done hresumed
  · have hresumed := (resumeHandler_eq (d := s.begun) hp hl hi).trans (if_pos ho)
    rw [World.resume_eq hi, if_neg (by
      rintro ⟨h1, h2, h3⟩
      rcases hno with hno | hno | hno
      · exact hno h1
      · exact hno h2
      · exact Bool.noConfusion (hno.symm.trans h3))] at hresumed
    exact hs.done hresumed
  · exact exec_panelHold (State.panelHold_holds (s := s.quiet) hp hi ho)
  · exact exec_panelHold (State.panelHold_nothing (s := s.quiet) hp hor)
  · exact exec_panelHold (State.panelHold_again (s := s.quiet) hp)

end Sys2Proof.Machine
end

section
/-! What the blocks' working leaves of the rundown with its states (`World.Worked`), and NEXT after a derivation and after a change notice
(R97, R102). -/
namespace Sys2Proof.Machine

-- One proof is checked at a time: the tests above leave little memory for proofs side by side.
set_option Elab.async false

/-- An item but for the operating fields of its elements. -/
def Item.still (it : Item) : Item := { it with elements := it.elements.map Element.renew }

theorem Item.still_livePending (it : Item) : it.still.livePending = it.livePending := rfl

/-- What the blocks' working leaves: the items with their states but for their elements' operating fields, their places, and the lanes
but for their lists. -/
structure World.Worked (v w : World) : Prop where
  stills : w.store.items.map Item.still = v.store.items.map Item.still
  orders : w.store.orders = v.store.orders
  standbys : w.store.standbys = v.store.standbys
  standing : ∀ l, (w.lane l).standing = (v.lane l).standing

theorem World.Worked.refl (v : World) : v.Worked v := ⟨rfl, rfl, rfl, fun _ => rfl⟩

theorem working_worked (v : World) : Working v.Worked where
  lane _ _ h hr := { h with standing := fun l' => (World.setLane_standing hr l').trans (h.standing l') }
  elems {w} f h hf hrenew :=
    { h with
      stills := by
        refine (?_ : (w.store.items.map f).map Item.still = _).trans h.stills
        rw [List.map_map]
        refine List.map_congr_left fun it _ => ?_
        simp only [Function.comp, Item.still, hrenew]
        rw [hf] }
  port _ _ h _ _ := { h with }
  station _ _ h _ := { h with }
  entry _ _ h _ _ := { h with }
  rolls _ h := { h with }
  due _ _ h := { h with }
  loads _ h := { h with }
  out _ h _ := { h with }

section Worked
variable {v w : World} (h : v.Worked w)
include h

theorem World.Worked.lane_eq {β : Type} (g : LaneRec → β) (hg : ∀ r, g r.standing = g r) (l : Fin 4) :
    g (w.lane l) = g (v.lane l) := by
  rw [← hg (w.lane l), h.standing, hg]

theorem World.Worked.next (l : Fin 4) : (w.lane l).next = (v.lane l).next := h.lane_eq LaneRec.next (fun _ => rfl) l
theorem World.Worked.state (l : Fin 4) : (w.lane l).state = (v.lane l).state := h.lane_eq LaneRec.state (fun _ => rfl) l
theorem World.Worked.cursor (l : Fin 4) : (w.lane l).cursor = (v.lane l).cursor := h.lane_eq LaneRec.cursor (fun _ => rfl) l
theorem World.Worked.onAir (l : Fin 4) : (w.lane l).onAir = (v.lane l).onAir := h.lane_eq LaneRec.onAir (fun _ => rfl) l

theorem World.Worked.item? (k : Nat) : (w.item? k).map Item.still = (v.item? k).map Item.still := by
  have hfind : ∀ s : Store, (s.item? k).map Item.still = (s.items.map Item.still).find? (fun it => decide (it.key = k)) := by
    intro s
    rw [Store.item?, List.find?_map]
    rfl
  exact (hfind _).trans ((congrArg _ h.stills).trans (hfind _).symm)

theorem World.Worked.item?_some {k : Nat} {it : Item} (hit : v.item? k = some it) :
    ∃ it', w.item? k = some it' ∧ it'.still = it.still :=
  Option.map_eq_some_iff.1 (by rw [h.item?, hit, Option.map_some])

theorem World.Worked.isSome (k : Nat) : (w.item? k).isSome = (v.item? k).isSome := by
  simpa using congrArg Option.isSome (h.item? k)

theorem World.Worked.nextItem?_isSome (l : Fin 4) : (w.nextItem? l).isSome = (v.nextItem? l).isSome := by
  unfold World.nextItem?
  rw [h.next]
  cases (v.lane l).next with
  | none => rfl
  | some k => exact h.isSome k

theorem World.Worked.included (l : Fin 4) (c : Option Nat) :
    (w.store.included l c).map (·.key) = (v.store.included l c).map (·.key) := by
  have hstill : ∀ (u : World) (keys : List Nat), ((u.store.itemsOf keys).filter Item.livePending).map (·.key) =
      ((keys.filterMap (fun k => (u.item? k).map Item.still)).filter Item.livePending).map (·.key) := by
    intro u keys
    have hkey : (fun it : Item => it.key) = (fun it : Item => it.key) ∘ Item.still := rfl
    have hlive : Item.livePending = Item.livePending ∘ Item.still := rfl
    rw [← List.map_filterMap, List.filter_map, List.map_map, ← hkey, ← hlive]
    rfl
  simp only [Store.included, hstill, h.orders, h.item?]

end Worked

/-- The key of a lane's first included item (R9, R97). -/
def World.first (w : World) (l : Fin 4) : Option Nat := ((w.store.included l (w.lane l).cursor).head?).map (·.key)

theorem World.Worked.first {v w : World} (h : v.Worked w) (l : Fin 4) : w.first l = v.first l := by
  have hmap := h.included l (w.lane l).cursor
  unfold World.first
  rw [← List.head?_map, hmap, List.head?_map, h.cursor]

/-! ### Disarming and deriving NEXT (R97, R102) -/

theorem World.disarm_of_none {e : Env} {w : World} {l : Fin 4} (h : w.nextItem? l = none) : World.disarm e w l = w := by
  unfold World.disarm
  rw [h]

/-- What a disarming does to the lane record before its lists are cleared (R102). -/
def LaneRec.unarmed (r : LaneRec) : LaneRec := { r with next := none, deferred := [] }

/-- What a disarming does to its item (R102). -/
def Item.disarmed (it : Item) : Item := { it with state := .pending, elements := it.elements.map Element.disarm }

/-- A disarming takes NEXT away, lets the blocks work, and leaves the item PENDING. -/
theorem World.disarm_of_some {e : Env} {w : World} {l : Fin 4} {it : Item} (h : w.nextItem? l = some it) :
    ∃ u, (w.modLane l LaneRec.unarmed).Worked u ∧ World.disarm e w l = u.modItem it.key Item.disarmed := by
  have hw := working_worked (w.modLane l LaneRec.unarmed)
  refine ⟨_, ?_, by unfold World.disarm; rw [h]; rfl⟩
  refine hw.modLane l (LaneRec.dropItemCues it.ref) (fun _ => rfl) (hw.clearItemCues e it.ref false ?_)
  exact hw.modLane l (LaneRec.dropItemLoads it.ref) (fun _ => rfl) (hw.releaseItem e l it.key (hw.askRecompute l (.refl _)))

theorem World.disarm_next (e : Env) (w : World) (l : Fin 4) :
    ((World.disarm e w l).lane l).next = if (w.nextItem? l).isSome then none else (w.lane l).next := by
  cases h : w.nextItem? l with
  | none => rw [World.disarm_of_none h]; rfl
  | some it =>
    obtain ⟨u, hu, heq⟩ := World.disarm_of_some (e := e) h
    rw [heq]
    exact (hu.next l).trans (by rw [World.modLane_lane, if_pos rfl]; rfl)

theorem World.arm_worked (e : Env) (w : World) (l : Fin 4) : w.Worked (World.arm e w l) := by
  unfold World.arm
  split
  · exact .refl w
  · exact Working.foldl _ (fun _ _ h => (working_worked w).armClip e _ _ h) _ (.refl w)

theorem World.deriveNext_of_same {e : Env} {w : World} {l : Fin 4} (h : (w.lane l).state = .idle ∨ w.first l = (w.lane l).next) :
    World.deriveNext e w l = w := by
  unfold World.deriveNext
  split
  · rfl
  · next hs => exact if_pos (h.resolve_left hs)

theorem World.deriveNext_of_ne {e : Env} {w : World} {l : Fin 4} (hs : (w.lane l).state ≠ .idle)
    (h : w.first l ≠ (w.lane l).next) : World.deriveNext e w l = (w.first l).elim ((World.disarm e w l).askRecompute l)
      (fun k => (World.arm e (((World.disarm e w l).modItem k (fun i => { i with state := .next })).modLane l
        (fun r => { r with next := some k })) l).askRecompute l) := by
  unfold World.deriveNext
  rw [if_neg hs]
  refine (if_neg h).trans ?_
  unfold World.first
  cases (w.store.included l (w.lane l).cursor).head? <;> rfl

/-- A lane that has started has its first included item as NEXT where its old NEXT could be disarmed (R97). -/
theorem World.deriveNext_next {e : Env} {w : World} {l : Fin 4} (hs : (w.lane l).state ≠ .idle)
    (hn : ∀ k, (w.lane l).next = some k → (w.item? k).isSome) : ((World.deriveNext e w l).lane l).next = w.first l := by
  by_cases h : w.first l = (w.lane l).next
  · rw [World.deriveNext_of_same (.inr h), h]
  rw [World.deriveNext_of_ne hs h]
  cases hf : w.first l with
  | none =>
    refine (World.disarm_next e w l).trans ?_
    cases hnext : (w.lane l).next with
    | none => simp
    | some k => simp [World.nextItem?, hnext, hn k hnext]
  | some k =>
    refine ((World.arm_worked e _ l).next l).trans ?_
    rw [World.modLane_lane, if_pos rfl]

/-- A derivation leaves NEXT, takes it away, or makes it the first included item. -/
theorem World.deriveNext_next_cases (e : Env) (w : World) (l : Fin 4) :
    ((World.deriveNext e w l).lane l).next = (w.lane l).next ∨ ((World.deriveNext e w l).lane l).next = none ∨
      ((World.deriveNext e w l).lane l).next = w.first l := by
  by_cases h : (w.lane l).state = .idle ∨ w.first l = (w.lane l).next
  · rw [World.deriveNext_of_same h]
    exact .inl rfl
  rw [not_or] at h
  rw [World.deriveNext_of_ne h.1 h.2]
  cases hf : w.first l with
  | none =>
    rw [Option.elim_none, show (((World.disarm e w l).askRecompute l).lane l).next = ((World.disarm e w l).lane l).next from rfl,
      World.disarm_next]
    split
    · exact .inr (.inl rfl)
    · exact .inl rfl
  | some k =>
    refine .inr (.inr (((World.arm_worked e _ l).next l).trans ?_))
    rw [World.modLane_lane, if_pos rfl]

/-! ### Change notices (R22, R26, R97, R112) -/

/-- A notice's element changes acted on, before NEXT is derived again (R22, R26). -/
def World.heard (e : Env) (w : World) (l : Fin 4) (n : Notice) : World :=
  (w.lane l).next.elim (n.onAir.foldl (World.changeOnAir e l) w)
    (fun k => n.next.foldl (World.changeNext e l k) (n.onAir.foldl (World.changeOnAir e l) w))

theorem World.heard_worked (e : Env) (w : World) (l : Fin 4) (n : Notice) : w.Worked (World.heard e w l n) := by
  have hw := working_worked w
  have hair : w.Worked (n.onAir.foldl (World.changeOnAir e l) w) :=
    Working.foldl _ (fun _ c h => hw.changeOnAir e l c h) _ (.refl w)
  unfold World.heard
  cases (w.lane l).next with
  | none => exact hair
  | some k => exact Working.foldl _ (fun _ c h => hw.changeNext e l k c h) _ hair

theorem World.cleanWaiters_worked (w : World) (l : Fin 4) : w.Worked (w.cleanWaiters l) := (working_worked w).cleanWaiters l (.refl w)

/-- A notice acts on the element changes, derives NEXT again, and lets the lane leave WAITING where its NEXT is not what it was. -/
theorem World.applyNotice_eq (e : Env) (w : World) (l : Fin 4) (n : Notice) {u : World}
    (hu : World.deriveNext e (World.heard e w l n) l = u) :
    ∃ v, u.Worked v ∧ (n.disarmed = false → (u.lane l).next = (w.lane l).next → v = u) ∧ World.applyNotice e w l n =
      (if n.disarmed || decide ((u.lane l).next ≠ (w.lane l).next) || decide (n.next ≠ []) then v.leaveWaiting l
        else v).askRecompute l := by
  refine ⟨if n.disarmed || ((w.lane l).next.isSome && decide ((u.lane l).next ≠ (w.lane l).next)) then u.cleanWaiters l else u,
    ?_, fun hd hn => if_neg (by simp [hd, hn]), ?_⟩
  · split
    · exact World.cleanWaiters_worked _ l
    · exact .refl _
  · subst hu
    unfold World.heard World.applyNotice
    cases (w.lane l).next <;> rfl

/-- A lane record that has left WAITING, but for its state (R96, R112). -/
def LaneRec.ungated (r : LaneRec) : LaneRec := { r with gate := false, gateDue := none }

theorem World.leaveWaiting_of_waiting {w : World} {l : Fin 4} (h : (w.lane l).state = .waiting) : w.leaveWaiting l =
    w.setLane l { (w.lane l).ungated with state := laneStateOf (w.onAirPlace l) (w.lane l).ungated } := by
  have hs : (w.lane l).ungated.state ≠ .idle := by simp [LaneRec.ungated, h]
  exact (if_pos h).trans (World.modLane_setState (f := LaneRec.ungated) hs rfl)

theorem World.leaveWaiting_of_not_waiting {w : World} {l : Fin 4} (h : (w.lane l).state ≠ .waiting) : w.leaveWaiting l = w :=
  if_neg h

theorem World.leaveWaiting_next (w : World) (l l' : Fin 4) : ((w.leaveWaiting l).lane l').next = (w.lane l').next := by
  by_cases h : (w.lane l).state = .waiting
  · rw [World.leaveWaiting_of_waiting h]
    exact World.read_setLane LaneRec.next (by exact rfl) l'
  · rw [World.leaveWaiting_of_not_waiting h]

/-- NEXT after a notice is NEXT as the derivation leaves it. -/
theorem World.applyNotice_next (e : Env) (w : World) (l : Fin 4) (n : Notice) :
    ((World.applyNotice e w l n).lane l).next = ((World.deriveNext e (World.heard e w l n) l).lane l).next := by
  obtain ⟨v, hv, -, heq⟩ := World.applyNotice_eq e w l n rfl
  rw [heq]
  show (World.lane (if _ then _ else _) l).next = _
  split
  · exact (World.leaveWaiting_next _ _ _).trans (hv.next l)
  · exact hv.next l

theorem World.applyNotice_next_cases (e : Env) (w : World) (l : Fin 4) (n : Notice) :
    ((World.applyNotice e w l n).lane l).next = (w.lane l).next ∨ ((World.applyNotice e w l n).lane l).next = none ∨
      ((World.applyNotice e w l n).lane l).next = w.first l := by
  have hh := World.heard_worked e w l n
  rw [World.applyNotice_next, ← hh.next, ← hh.first]
  exact World.deriveNext_next_cases e _ l

end Sys2Proof.Machine
end

section
/-! What the edits of the rundown write (R25 to R46): each request's handler on the requests that it serves, and what its notice leaves
of what it has written. -/
namespace Sys2Proof.Machine

-- One proof is checked at a time: the tests above leave little memory for proofs side by side.
set_option Elab.async false

/-! ### What an edit's notice leaves -/

/-- The part `w` after an edit of the lane `l` that left its cursor at `c` and the rundown's records and places as in `s`. -/
structure World.Edited (v : World) (l : Fin 4) (c : Option Nat) (s : Store) (w : World) : Prop where
  keeps : v.Keeps w [l]
  kept : (w.lane l).kept = (v.lane l).kept
  cursor : (w.lane l).cursor = c
  records : w.store.records = s.records
  orders : w.store.orders = s.orders
  standbys : w.store.standbys = s.standbys
  freeItems : w.store.freeItems = s.freeItems
  freeElements : w.store.freeElements = s.freeElements

theorem World.Stands.trans {L : Fin 4 → Prop} {u v w : World} (hv : u.Stands L v) (hw : v.Stands L w) : u.Stands L w :=
  ⟨fun l hl => (hw.lanes l hl).trans (hv.lanes l hl), fun p => (hw.ports p).trans (hv.ports p),
    fun st => (hw.stations st).trans (hv.stations st), fun d => (hw.services d).trans (hv.services d),
    hw.timing.trans hv.timing, hw.monitor.trans hv.monitor, hw.pulse.trans hv.pulse, hw.sdo.trans hv.sdo⟩

/-- A world written over `v` outside of its other lanes is left by the notice as it was written. -/
theorem World.edited_of_derives {v w u : World} {l : Fin 4} (hs : v.Stands (· = l) w) (hk : (w.lane l).kept = (v.lane l).kept)
    (hu : w.Derives (· = l) u) : v.Edited l (w.lane l).cursor w.store u where
  keeps := (hs.trans hu.toStands).keeps fun _ => by rintro rfl; exact List.mem_singleton_self _
  kept := (hu.kept l).trans hk
  cursor := hu.cursor l
  records := hu.records
  orders := hu.orders
  standbys := hu.standbys
  freeItems := hu.freeItems
  freeElements := hu.freeElements

theorem World.applyNotice_derives (e : Env) (w : World) (l : Fin 4) (n : Notice) :
    w.Derives (· = l) (World.applyNotice e w l n) :=
  (deriving_derives (· = l) w).applyNotice e l rfl n (.refl _ w)

/-- A store written over the part's, and a notice of a lane for it. -/
theorem Dev.notice_edited (d : Dev) {v : World} {l : Fin 4} (n : Notice) (s : Store) (hs : d.world.Stands (· = l) v)
    (hk : (v.lane l).kept = (d.world.lane l).kept) :
    d.world.Edited l (v.lane l).cursor s ((d.withWorld (v.setStore s)).notice l n).world :=
  World.edited_of_derives (w := v.setStore s) { hs with } hk (World.applyNotice_derives d.env (v.setStore s) l n)

theorem Dev.write_edited (d : Dev) (l : Fin 4) (n : Notice) (s : Store) :
    d.world.Edited l (d.world.lane l).cursor s ((d.withWorld (d.world.setStore s)).notice l n).world :=
  d.notice_edited n s (.refl _ _) rfl

/-- A request that writes a store and gives its lane a notice for it. -/
theorem State.Asks.written {s : State} {kind tag : Byte} {p : List Byte} {rest : List Request} (hs : s.Asks kind tag p rest)
    {h : Handler} {l : Fin 4} {n : Notice} {t : Store} {reply : Dev → List Byte}
    (hh : h s.begun p = .ok (.done ((s.begun.withWorld (s.begun.world.setStore t)).notice l n) reply)) :
    ∃ d : Dev, Machine.request kind h s = .next (s.replied rest tag d.settle .ok (reply d.settle)) ∧ d.env = s.dev.env ∧
      s.begun.world.Edited l (s.dev.world.lane l).cursor t d.world :=
  ⟨_, hs.done hh, rfl, s.begun.write_edited l n t⟩

/-- The part, or the part with the NEXT item of a lane disarmed, before the request's own writes. -/
theorem World.disarmIf_derives (e : Env) (w : World) (l : Fin 4) (b : Bool) :
    w.Derives (· = l) (if b then World.disarm e w l else w) := by
  split
  · exact (deriving_derives (· = l) w).disarm e l rfl (.refl _ w)
  · exact .refl _ w

/-! ### What a change of one item does to the records -/

theorem Store.records_modItem (s : Store) (k : Nat) {f g : Item → Item} (hf : ∀ it, (f it).record = g it.record) :
    (s.modItem k f).records = s.records.map (fun i => if i.key = k then g i else i) := by
  simp only [Store.records, Store.modItem, List.map_map]
  refine List.map_congr_left fun it _ => ?_
  simp only [Function.comp, show it.record.key = it.key from rfl]
  split <;> [exact hf it; rfl]

theorem Store.item?_modItem_self {s : Store} {k : Nat} {it : Item} {f : Item → Item} (hf : ∀ i, (f i).key = i.key)
    (hit : s.item? k = some it) : (s.modItem k f).item? k = some (f it) := by
  have hkey : ∀ i : Item, (if i.key = k then f i else i).key = i.key := fun i => by split <;> [exact hf i; rfl]
  rw [Store.item?, Store.modItem, List.find?_map]
  simp only [Function.comp_def, hkey]
  rw [show s.items.find? (fun i => decide (i.key = k)) = some it from hit]
  simp [Store.item?_key hit]

/-! ### FLOAT and RESTORE (R38, R39) -/

/-- An item that is not live pending is not the first included one of any lane. -/
theorem World.first_ne {w : World} {k : Nat} {it : Item} (hit : w.item? k = some it) (hlive : it.livePending = false)
    (l : Fin 4) : w.first l ≠ some k := by
  intro hfirst
  obtain ⟨x, hx, hxk⟩ := Option.map_eq_some_iff.1 hfirst
  obtain ⟨hmem, hxl⟩ := List.mem_filter.1 (List.mem_of_head? hx)
  obtain ⟨k', -, hk'⟩ := List.mem_filterMap.1 hmem
  obtain rfl : k' = k := (Store.item?_key hk').symm.trans hxk
  cases hk'.symm.trans hit
  rw [hlive] at hxl
  cases hxl

section Disposition
variable {d : Dev} {p : List Byte} {k : Nat} {it : Item} (hp : readAll (readNat 2) p = some k) (hk : k ≠ 0)
  (hit : d.world.item? k = some it)
include hp hk hit

theorem floatHandler_eq (hplace : it.place = .order) (hair : it.state ≠ .onAir) : floatHandler d p =
    if it.disposition = .floated then .ok (.same (revReply k d)) else
      let isNext := decide ((d.world.lane it.lane).next = some k)
      let v := if isNext then World.disarm d.env d.world it.lane else d.world
      .ok (.done (d.edit (v.modItem k (fun i => { i.revised with disposition := .floated, proposed := false })) it.lane isNext)
        (revReply k)) := by
  exact bind_four_of_ok (fields_eq hp) (itemKey_eq hk) (Dev.find_eq hit) (want_eq (by simp [hair]))
    (bind_of_ok (want_eq (decide_eq_true hplace)))

theorem restoreHandler_eq : restoreHandler d p =
    if it.disposition = .inOrder then .ok (.same (revReply k d)) else
      .ok (.done (d.edit (d.world.modItem k (fun i => { i.revised with disposition := .inOrder })) it.lane false)
        (revReply k)) := by
  exact bind_two_of_ok (fields_eq hp) (itemKey_eq hk) (bind_of_ok (Dev.find_eq hit))

end Disposition

/-- Settles O16: FLOAT disarms its item where that is NEXT, and the item it leaves is not included. -/
theorem floatAndRestoreSetTheDisposition : Obligations.FloatAndRestoreSetTheDisposition := by
  intro s tag p rest k it S hp hk hit
  refine ⟨fun hs hplace hair hd => ?_, fun hs hplace hair hd => ?_, fun hs hd => ?_, fun hs hd => ?_⟩
  · exact hs.same ((floatHandler_eq (d := s.begun) hp hk hit hplace hair).trans (if_pos hd))
  · refine ⟨_, hs.done ((floatHandler_eq (d := s.begun) hp hk hit hplace hair).trans (if_neg hd)), rfl, ?_⟩
    set b := decide ((s.begun.world.lane it.lane).next = some k)
    set v := if b then World.disarm s.begun.env s.begun.world it.lane else s.begun.world with hv
    set f : Item → Item := fun i => { i.revised with disposition := .floated, proposed := false }
    have hder := World.disarmIf_derives s.begun.env s.begun.world it.lane b
    have hed := s.begun.notice_edited { Notice.between s.begun.world (v.modItem k f) it.lane with disarmed := b }
      (v.store.modItem k f) hder.toStands (hder.kept it.lane)
    refine ⟨hed.keeps, hed.kept, hed.cursor.trans (hder.cursor _), ?_, ?_, hed.orders.trans hder.orders,
      hed.standbys.trans hder.standbys, hed.freeItems.trans hder.freeItems, hed.freeElements.trans hder.freeElements⟩
    · have hv : (v.lane it.lane).next ≠ some k := by
        rw [hv]
        split
        · next hb =>
          rw [World.disarm_next, World.nextItem?, of_decide_eq_true hb, Option.bind_some,
            show s.begun.world.item? k = some it from hit]
          simp
        · next hb => simpa [b] using hb
      obtain ⟨x, hx, -⟩ := Store.item?_of_records_eq hder.records hit
      have hfloat : (v.modItem k f).item? k = some (f x) := Store.item?_modItem_self (fun _ => rfl) hx
      rcases World.applyNotice_next_cases s.begun.env (v.modItem k f) it.lane
        { Notice.between s.begun.world (v.modItem k f) it.lane with disarmed := b } with h | h | h
      · exact fun h' => hv (h.symm.trans h')
      · exact fun h' => nomatch h.symm.trans h'
      · exact fun h' => World.first_ne hfloat (by simp [f, Item.livePending]) it.lane (h.symm.trans h')
    · refine hed.records.trans ?_
      rw [Store.records_modItem v.store k (f := f) (g := f) (fun _ => rfl), hder.records]
      rfl
  · exact hs.same ((restoreHandler_eq (d := s.begun) hp hk hit).trans (if_pos hd))
  · refine ⟨_, hs.done ((restoreHandler_eq (d := s.begun) hp hk hit).trans (if_neg hd)), rfl, ?_⟩
    set f : Item → Item := fun i => { i.revised with disposition := .inOrder }
    have hed := s.begun.write_edited it.lane
      { Notice.between s.begun.world (s.begun.world.modItem k f) it.lane with disarmed := false }
      (s.begun.world.store.modItem k f)
    exact ⟨hed.keeps, hed.kept, hed.cursor, hed.records.trans (Store.records_modItem _ k (f := f) (g := f) (fun _ => rfl)),
      hed.orders, hed.standbys, hed.freeItems, hed.freeElements⟩

end Sys2Proof.Machine
end

section
/-! Items freed by KILL, RETIRE and CLEARLANE (R2, R8, R40, R41, R121): what freeing a list of items of one lane leaves. -/
namespace Sys2Proof.Machine

-- One proof is checked at a time: the tests above leave little memory for proofs side by side.
set_option Elab.async false

/-- A store without the items `its` of the lane `l`, their records in the pools (R2). -/
def Store.without (s : Store) (l : Fin 4) (its : List Item) : Store :=
  { items := s.items.filter (fun i => !(its.map (·.key)).contains i.key)
    freeItems := s.freeItems ++ its.map (·.ref)
    freeElements := s.freeElements ++ its.flatMap (fun it => it.elements.map (·.ref))
    orders := s.orders.set l ((s.orders.get l).filter (fun k => !(its.map (·.key)).contains k))
    standbys := if (s.standbys.get l).any (its.map (·.key)).contains then s.standbys.set l none else s.standbys }

/-- A cursor on an item that is freed passes to the item above it (R8). -/
def cursorAfter (order : List Nat) (k : Nat) (c : Option Nat) : Option Nat := if c = some k then above? order k else c

/-- A world without the items `its` of the lane `l`, that lane's cursor standing at `c`. -/
def World.without (w : World) (l : Fin 4) (its : List Item) (c : Option Nat) : World :=
  (w.setLane l { w.lane l with cursor := c }).setStore (w.store.without l its)

theorem World.freeItem_eq_without {w : World} {k : Nat} {it : Item} (hit : w.item? k = some it) :
    ∃ rolls, w.freeItem k =
      { w.without it.lane [it] (cursorAfter (w.store.orders.get it.lane) k (w.lane it.lane).cursor) with rolls } := by
  obtain ⟨rolls, hfree⟩ := World.freeItem_of_some hit
  obtain rfl : it.key = k := Store.item?_key hit
  refine ⟨rolls, hfree.trans ?_⟩
  have hlanes : (if (w.lane it.lane).cursor = some it.key then
      w.lanes.set it.lane { w.lane it.lane with cursor := above? (w.store.orders.get it.lane) it.key } else w.lanes) =
      w.lanes.set it.lane { w.lane it.lane with
        cursor := cursorAfter (w.store.orders.get it.lane) it.key (w.lane it.lane).cursor } := by
    unfold cursorAfter
    split
    · rfl
    · exact (Tbl.set_get _ _).symm
  have hcontains : ∀ a : Nat, [it.key].contains a = decide (a = it.key) := by simp
  have hstandby : (w.store.standbys.get it.lane).any [it.key].contains = true ↔ w.store.standbys.get it.lane = some it.key := by
    cases w.store.standbys.get it.lane <;> simp
  rw [hlanes]
  simp only [World.without, World.setLane, World.setStore, Store.without, List.map_cons, List.map_nil, hstandby, hcontains,
    List.flatMap_cons, List.flatMap_nil, List.append_nil, decide_not]

theorem Store.without_nil (s : Store) (l : Fin 4) : s.without l [] = s := by
  have hnone : ∀ o : Option Nat, o.any ([] : List Nat).contains = false := by
    intro o
    induction o <;> rfl
  simp only [Store.without, List.map_nil, List.contains_nil, hnone, Bool.not_false, List.filter_true, List.append_nil,
    List.flatMap_nil, Tbl.set_get]
  rfl

theorem not_contains_cons (k : Nat) (ks : List Nat) (a : Nat) :
    (!(k :: ks).contains a) = (!ks.contains a && !decide (a = k)) := by
  by_cases h : a = k <;> simp [h]

/-- Items taken out one after the other are taken out together. -/
theorem Store.without_without (s : Store) (l : Fin 4) (it : Item) (its : List Item) :
    (s.without l [it]).without l its = s.without l (it :: its) := by
  have hstandbys : (if ((s.without l [it]).standbys.get l).any (its.map (·.key)).contains then
      (s.without l [it]).standbys.set l none else (s.without l [it]).standbys) =
      if (s.standbys.get l).any (it.key :: its.map (·.key)).contains then s.standbys.set l none else s.standbys := by
    cases hs : s.standbys.get l with
    | none => simp [Store.without, hs]
    | some k =>
      by_cases hk : k = it.key
      · simp [Store.without, hs, hk]
      · simp [Store.without, hs, hk]
  simp only [Store.without, List.map_cons, List.map_nil, List.filter_filter, Tbl.get_set_self, Tbl.set_set, List.append_assoc,
    List.flatMap_cons, List.flatMap_nil, List.append_nil, not_contains_cons] at hstandbys ⊢
  rw [hstandbys]
  rfl

theorem World.item?_without (w : World) (l : Fin 4) (it : Item) (c : Option Nat) (k : Nat) :
    (w.without l [it] c).item? k = if k = it.key then none else w.item? k := by
  simp only [World.item?, Store.item?, World.without, World.setStore_store, Store.without, List.find?_filter]
  split
  · next hk => subst hk; simp
  · next hk =>
    congr 1
    funext x
    by_cases hx : x.key = k <;> simp [hx, hk]

/-- The cursor after the items with the keys `ks` are freed in turn from an order. -/
def cursorAfterAll : List Nat → List Nat → Option Nat → Option Nat
  | _, [], c => c
  | order, k :: ks, c => cursorAfterAll (order.filter (fun x => decide (x ≠ k))) ks (cursorAfter order k c)

/-- Items of one lane freed in turn. -/
theorem World.freeItems_eq_without {l : Fin 4} (its : List Item) {w : World} (hlane : ∀ it ∈ its, it.lane = l)
    (hfound : ∀ it ∈ its, w.item? it.key = some it) (hn : (its.map (·.key)).Nodup) :
    ∃ rolls, (its.map (·.key)).foldl (fun w k => w.freeItem k) w =
      { w.without l its (cursorAfterAll (w.store.orders.get l) (its.map (·.key)) (w.lane l).cursor) with rolls } := by
  induction its generalizing w with
  | nil =>
    refine ⟨w.rolls, ?_⟩
    simp only [World.without, Store.without_nil, List.map_nil, cursorAfterAll, List.foldl_nil]
    exact congrArg (fun lanes => { w with lanes }) (Tbl.set_get w.lanes l).symm
  | cons it its ih =>
    rw [List.map_cons, List.nodup_cons] at hn
    obtain rfl := hlane it (List.mem_cons_self ..)
    obtain ⟨rolls, hfree⟩ := World.freeItem_eq_without (hfound it (List.mem_cons_self ..))
    obtain ⟨rolls', hrest⟩ := ih (w := w.freeItem it.key) (fun x hx => hlane x (List.mem_cons_of_mem _ hx)) (fun x hx => by
      rw [World.freeItem_item?, if_neg (by rintro h; exact hn.1 (h ▸ List.mem_map_of_mem (f := (·.key)) hx))]
      exact hfound x (List.mem_cons_of_mem _ hx)) hn.2
    refine ⟨rolls', ?_⟩
    rw [List.map_cons, List.foldl_cons, hrest, hfree]
    have horders : (w.store.without it.lane [it]).orders.get it.lane =
        (w.store.orders.get it.lane).filter (fun x => decide (x ≠ it.key)) := by
      simp [Store.without]
    simp only [World.without, World.setStore, World.setLane, World.lane, Store.without_without, horders, Tbl.get_set_self,
      Tbl.set_set, cursorAfterAll]

/-- What is freed with its cursor stands outside of the lane as it did. -/
theorem World.without_stands (w : World) (l : Fin 4) (its : List Item) (c : Option Nat) (rolls : Tbl 64 (Option Owner)) :
    w.Stands (· = l) { w.without l its c with rolls } :=
  { World.Stands.refl (· = l) w with
    lanes := fun l' hl => by
      show ((w.setLane l _).lane l').standing = _
      rw [World.setLane_lane, if_neg (Ne.symm hl)] }

theorem World.without_lane (w : World) (l : Fin 4) (its : List Item) (c : Option Nat) :
    (w.without l its c).lane l = { w.lane l with cursor := c } := by
  show (w.setLane l _).lane l = _
  rw [World.setLane_lane, if_pos rfl]

theorem takeWhile_filter_ne (order : List Nat) {c k : Nat} (h : c ≠ k) :
    (order.filter (fun x => decide (x ≠ k))).takeWhile (fun x => decide (x ≠ c)) =
      (order.takeWhile (fun x => decide (x ≠ c))).filter (fun x => decide (x ≠ k)) := by
  induction order with
  | nil => rfl
  | cons x xs ih =>
    by_cases hk : x = k
    · subst hk
      simpa [Ne.symm h] using ih
    · by_cases hc : x = c
      · subst hc
        simp [hk]
      · simpa [hk, hc] using ih

/-- What stands above the first of a run of keys of an order is none of them. -/
theorem not_mem_of_mem_takeWhile {order ks : List Nat} {c a : Nat} (ho : order.Nodup) (hks : (c :: ks).Sublist order)
    (ha : a ∈ order.takeWhile (fun x => decide (x ≠ c))) : a ∉ c :: ks := by
  have hsplit := List.takeWhile_append_dropWhile (p := fun x => decide (x ≠ c)) (l := order)
  rw [← hsplit] at ho hks
  obtain ⟨l₁, l₂, heq, h₁, h₂⟩ := List.sublist_append_iff.1 hks
  cases l₁ with
  | cons x l₁ =>
    obtain ⟨rfl, -⟩ := List.cons.inj heq
    have := List.mem_takeWhile_imp (h₁.subset (List.mem_cons_self ..))
    simp at this
  | nil =>
    rw [List.nil_append] at heq
    exact fun hmem => (List.nodup_append.1 ho).2.2 a ha a (h₂.subset (heq ▸ hmem)) rfl

/-- Freed from the top down, a cursor on a freed item passes to the nearest item above it that is left (R8, R41). -/
theorem cursorAfterAll_eq {order ks : List Nat} (ho : order.Nodup) (hks : ks.Sublist order) (c : Option Nat) :
    cursorAfterAll order ks c = c.bind (fun c => if c ∈ ks then
      ((order.takeWhile (fun k => decide (k ≠ c))).filter (fun k => decide (k ∉ ks))).getLast? else some c) := by
  induction ks generalizing order c with
  | nil => induction c <;> rfl
  | cons k ks ih =>
    have hn : k ∉ ks ∧ ks.Nodup := List.nodup_cons.1 (hks.nodup ho)
    have hrest : ks.Sublist (order.filter (fun x => decide (x ≠ k))) := by
      have hself : ks.filter (fun x => decide (x ≠ k)) = ks := by
        rw [List.filter_eq_self]
        intro x hx
        exact decide_eq_true fun h => hn.1 (h ▸ hx)
      exact hself ▸ ((List.sublist_cons_self k ks).trans hks).filter _
    rw [cursorAfterAll, ih (ho.filter _) hrest]
    induction c with
    | none => rfl
    | some c =>
      by_cases hc : c = k
      · subst hc
        have habove : ∀ a ∈ order.takeWhile (fun x => decide (x ≠ c)), a ∉ c :: ks :=
          fun a ha => not_mem_of_mem_takeWhile ho hks ha
        have hafter : cursorAfter order c (some c) = (order.takeWhile (fun x => decide (x ≠ c))).getLast? := if_pos rfl
        have hall : (order.takeWhile (fun x => decide (x ≠ c))).filter (fun a => decide (a ∉ c :: ks)) =
            order.takeWhile (fun x => decide (x ≠ c)) :=
          List.filter_eq_self.2 fun a ha => decide_eq_true (habove a ha)
        rw [hafter, Option.bind_some, if_pos (List.mem_cons_self ..), hall]
        cases hlast : (order.takeWhile (fun x => decide (x ≠ c))).getLast? with
        | none => rfl
        | some a =>
          exact if_neg fun h => habove a (List.mem_of_getLast? hlast) (List.mem_cons_of_mem _ h)
      · have hafter : cursorAfter order k (some c) = some c := if_neg (by simpa using hc)
        rw [hafter, Option.bind_some, Option.bind_some, takeWhile_filter_ne order hc, List.filter_filter]
        simp [hc, Bool.and_comm, not_or]

/-! ### The items of a list of keys -/

theorem Store.mem_itemsOf {s : Store} {keys : List Nat} {it : Item} :
    it ∈ s.itemsOf keys ↔ it.key ∈ keys ∧ s.item? it.key = some it := by
  simp only [Store.itemsOf, List.mem_filterMap]
  constructor
  · rintro ⟨k, hk, hit⟩
    obtain rfl := Store.item?_key hit
    exact ⟨hk, hit⟩
  · exact fun ⟨hk, hit⟩ => ⟨_, hk, hit⟩

theorem Store.itemsOf_keys (s : Store) (keys : List Nat) : ((s.itemsOf keys).map (·.key)).Sublist keys := by
  induction keys with
  | nil => exact List.Sublist.refl _
  | cons k keys ih =>
    unfold Store.itemsOf at ih ⊢
    rw [List.filterMap_cons]
    cases hit : s.item? k with
    | none => exact ih.cons k
    | some it =>
      rw [List.map_cons, Store.item?_key hit]
      exact ih.cons_cons k

theorem Store.records_without (s : Store) (l : Fin 4) (its : List Item) :
    (s.without l its).records = s.records.filter (fun i => !(its.map (·.key)).contains i.key) := by
  rw [Store.records, Store.records, List.filter_map]
  rfl

/-- The items of a lane's order are of the lane. -/
theorem Store.Placed.lane_of_mem_order {s : Store} (hok : s.Ok) (h : s.Placed) {l : Fin 4} {it : Item}
    (hit : s.item? it.key = some it) (hk : it.key ∈ s.orders.get l) : it.lane = l ∧ it.place = .order := by
  obtain ⟨x, hx, hxk, hxl, hxp⟩ := (h.2.1 l it.key).1 hk
  obtain rfl := hok.eq_of_key hx (List.mem_of_find?_eq_some hit) hxk
  exact ⟨hxl, hxp⟩

/-- A world that stands as `v` but for items freed from the lane `l`, and a notice of the lane for it. -/
theorem World.without_edited {e : Env} {u v w : World} {l : Fin 4} {its : List Item} {c : Option Nat} {n : Notice}
    {rolls : Tbl 64 (Option Owner)} (hv : u.Derives (· = l) v) (hw : w = { v.without l its c with rolls }) :
    u.Edited l c (v.store.without l its) (World.applyNotice e w l n) := by
  have hlane : w.lane l = { v.lane l with cursor := c } := by
    rw [hw]
    exact v.without_lane l its c
  have hstore : w.store = v.store.without l its := by rw [hw]; rfl
  have hstands : v.Stands (· = l) w := by
    rw [hw]
    exact v.without_stands l its c rolls
  have hkept : (w.lane l).kept = (u.lane l).kept := by
    rw [hlane]
    exact hv.kept l
  have hed := World.edited_of_derives (hv.toStands.trans hstands) hkept (World.applyNotice_derives e w l n)
  rwa [hstore, hlane] at hed

/-- Items freed are told by their keys and records, which a derivation before leaves. -/
theorem World.Edited.of_without {u v w : World} {l : Fin 4} {its its' : List Item} {c : Option Nat}
    (h : u.Edited l c (v.store.without l its) w) (hv : u.Derives (· = l) v) (hk : its.map (·.key) = its'.map (·.key))
    (hr : its.map (·.ref) = its'.map (·.ref))
    (he : its.flatMap (fun it => it.elements.map (·.ref)) = its'.flatMap (fun it => it.elements.map (·.ref))) :
    u.Edited l c (u.store.without l its') w :=
  { h with
    records := by rw [h.records, Store.records_without, Store.records_without, hv.records, hk]
    orders := by rw [h.orders, Store.without, Store.without, hv.orders, hk]
    standbys := by rw [h.standbys, Store.without, Store.without, hv.standbys, hk]
    freeItems := by rw [h.freeItems, Store.without, Store.without, hv.freeItems, hr]
    freeElements := by rw [h.freeElements, Store.without, Store.without, hv.freeElements, he] }

/-! ### KILL (R40) -/

theorem killHandler_eq {d : Dev} {p : List Byte} {k : Nat} {it : Item} (hp : readAll (readNat 2) p = some k) (hk : k ≠ 0)
    (hit : d.world.item? k = some it) (hair : it.state ≠ .onAir) : killHandler d p =
      (let isNext := decide ((d.world.lane it.lane).next = some k)
       let v := if isNext then World.disarm d.env d.world it.lane else d.world
       .ok (.done (d.edit (v.freeItem k) it.lane isNext) (fun _ => be 2 it.elements.length))) := by
  exact bind_four_of_ok (fields_eq hp) (itemKey_eq hk) (Dev.find_eq hit) (want_eq (decide_eq_true hair)) rfl

theorem killFreesItem (s : State) (tag : Byte) (p : List Byte) (rest : List Request) (k : Nat) (it : Item)
    (hs : s.Asks 0x15#8 tag p rest) (hp : readAll (readNat 2) p = some k) (hk : k ≠ 0) (hit : s.dev.world.store.item? k = some it)
    (hair : it.state ≠ .onAir) :
    ∃ d : Dev, exec .kill s = .next (s.replied rest tag d.settle .ok (be 2 it.elements.length)) ∧ d.env = s.dev.env ∧
      s.begun.world.Edited it.lane (cursorAfter (s.dev.world.store.orders.get it.lane) k (s.dev.world.lane it.lane).cursor)
        (s.dev.world.store.without it.lane [it]) d.world := by
  refine ⟨_, hs.done (killHandler_eq (d := s.begun) hp hk hit hair), rfl, ?_⟩
  set b := decide ((s.begun.world.lane it.lane).next = some k)
  set v := if b then World.disarm s.begun.env s.begun.world it.lane else s.begun.world with hv
  have hder : s.begun.world.Derives (· = it.lane) v := World.disarmIf_derives s.begun.env s.begun.world it.lane b
  obtain ⟨x, hx, hrecord⟩ := Store.item?_of_records_eq hder.records hit
  obtain ⟨hkey, href, hlane, -, hels⟩ := Item.sameSpot_of_content (Item.content_of_record hrecord)
  obtain ⟨rolls, hfree⟩ := World.freeItem_eq_without (w := v) hx
  rw [hlane] at hfree
  have hed := World.without_edited (e := s.begun.env) (n := { Notice.between s.begun.world (v.freeItem k) it.lane with disarmed := b })
    hder hfree
  rw [hder.orders, hder.cursor] at hed
  exact hed.of_without hder (by simp [hkey]) (by simp [href]) (by simp [hels])

/-! ### RETIRE (R41) -/

section Retire
variable {d : Dev} {p : List Byte} {n upTo : Nat} {l : Fin 4} {walked below : List Nat}

/-- The keys that a RETIRE walks down to the one it names are those that stand above it, and itself. -/
theorem retire_walked (hn : (walked ++ below).Nodup)
    (h : (upTo = 0 ∧ below = []) ∨ (upTo ≠ 0 ∧ walked.getLast? = some upTo)) :
    (if upTo = 0 then walked ++ below
      else (walked ++ below).takeWhile (fun k => decide (k ≠ upTo)) ++ [upTo]) = walked := by
  rcases h with ⟨rfl, rfl⟩ | ⟨hne, hlast⟩
  · rw [if_pos rfl, List.append_nil]
  · obtain ⟨above, rfl⟩ := List.getLast?_eq_some_iff.1 hlast
    have hnot : upTo ∉ above := by
      intro hmem
      rw [List.append_assoc] at hn
      exact (List.nodup_append.1 hn).2.2 upTo hmem upTo (by simp) rfl
    have htake : (above ++ [upTo] ++ below).takeWhile (fun k => decide (k ≠ upTo)) = above := by
      rw [List.append_assoc, List.takeWhile_append_of_pos fun a ha => decide_eq_true (by rintro rfl; exact hnot ha)]
      simp
    rw [if_neg hne, htake]

theorem retireHandler_eq (hp : readAll readLaneKey p = some (n, upTo)) (hl : place? 4 n = some l)
    (hplace : d.world.store.standsIn l upTo)
    (hwalked : (if upTo = 0 then d.world.store.orders.get l
      else (d.world.store.orders.get l).takeWhile (fun k => decide (k ≠ upTo)) ++ [upTo]) = walked) :
    retireHandler d p =
      (let done := (d.world.store.itemsOf walked).filter (fun it => decide (it.state = .done))
       let count := be 2 done.length ++ be 2 (done.map (·.elements.length)).sum
       if done = [] then .ok (.same count) else
         .ok (.done (d.edit ((done.map (·.key)).foldl (fun w k => w.freeItem k) d.world) l false) (fun _ => count))) := by
  subst hwalked
  exact (bind_of_ok (fields_eq hp)).trans (bind_two_of_ok (numbered_eq hl) (Dev.checkPlace_eq hplace) rfl)

end Retire

theorem retireFreesItems (s : State) (tag : Byte) (p : List Byte) (rest : List Request) (n upTo : Nat) (l : Fin 4)
    (walked below : List Nat) {done : List Item}
    (hdone : (s.dev.world.store.itemsOf walked).filter (fun it => decide (it.state = .done)) = done)
    (hs : s.Asks 0x16#8 tag p rest) (hp : readAll readLaneKey p = some (n, upTo)) (hl : place? 4 n = some l)
    (hok : s.dev.world.store.Ok) (hplaced : s.dev.world.store.Placed) (horder : s.dev.world.store.orders.get l = walked ++ below)
    (hupTo : (upTo = 0 ∧ below = []) ∨ (upTo ≠ 0 ∧ walked.getLast? = some upTo)) :
    ∃ d : Dev, (exec .retire s = .next (s.replied rest tag d.settle .ok
        (be 2 done.length ++ be 2 (done.map (·.elements.length)).sum)) ∨
      (done = [] ∧ d = s.begun ∧ exec .retire s = .next (s.replied rest tag d .ok (be 2 0 ++ be 2 0)))) ∧
    d.env = s.dev.env ∧
      s.begun.world.Edited l (cursorAfterAll (s.dev.world.store.orders.get l) (done.map (·.key)) (s.dev.world.lane l).cursor)
        (s.dev.world.store.without l done) d.world := by
  have hn : (walked ++ below).Nodup := horder ▸ hplaced.1 l
  have hwalked := retire_walked hn hupTo
  rw [← horder] at hwalked
  have hstands : s.dev.world.store.standsIn l upTo := by
    rcases hupTo with ⟨h0, -⟩ | ⟨-, hlast⟩
    · exact .inl h0
    · have hmem : upTo ∈ s.dev.world.store.orders.get l := by
        rw [horder]
        exact List.mem_append_left _ (List.mem_of_getLast? hlast)
      obtain ⟨x, hx, rfl, hxl, hxp⟩ := (hplaced.2.1 l upTo).1 hmem
      exact .inr ⟨x, hok.item?_eq hx, hxl, hxp⟩
  have heq := retireHandler_eq (d := s.begun) hp hl hstands hwalked
  rw [show (s.begun.world.store.itemsOf walked).filter (fun it => decide (it.state = .done)) = done from hdone] at heq
  have hfound : ∀ it ∈ done, it.key ∈ walked ∧ s.dev.world.store.item? it.key = some it := by
    intro it hit
    rw [← hdone] at hit
    exact Store.mem_itemsOf.1 (List.mem_of_mem_filter hit)
  have hsub : (done.map (·.key)).Sublist walked := by
    rw [← hdone]
    exact (List.filter_sublist.map _).trans (Store.itemsOf_keys _ _)
  by_cases hnone : done = []
  · refine ⟨s.begun, .inr ⟨hnone, rfl, ?_⟩, rfl, ?_⟩
    · rw [hnone] at heq
      exact hs.same heq
    · rw [hnone]
      have := World.edited_of_derives (World.Stands.refl (· = l) s.begun.world) rfl (.refl (· = l) s.begun.world)
      rwa [← Store.without_nil s.begun.world.store l] at this
  · refine ⟨_, .inl (hs.done (heq.trans (if_neg hnone))), rfl, ?_⟩
    obtain ⟨rolls, hfree⟩ := World.freeItems_eq_without (l := l) (w := s.begun.world) done
      (fun it hit => (hplaced.lane_of_mem_order hok (hfound it hit).2
        (horder ▸ List.mem_append_left _ (hfound it hit).1)).1)
      (fun it hit => (hfound it hit).2) (hsub.nodup (List.nodup_append.1 hn).1)
    have hed := World.without_edited (e := s.begun.env)
      (n := { Notice.between s.begun.world ((done.map (·.key)).foldl (fun w k => w.freeItem k) s.begun.world) l with
        disarmed := false }) (.refl (· = l) s.begun.world) hfree
    exact hed

/-- A lane's standby item is none of its order's (R7). -/
theorem Store.Placed.standby_not_mem {s : Store} (hok : s.Ok) (h : s.Placed) {l : Fin 4} {ks : List Nat}
    (hks : ∀ k ∈ ks, k ∈ s.orders.get l) : (s.standbys.get l).any ks.contains = false := by
  cases hsb : s.standbys.get l with
  | none => rfl
  | some k =>
    rw [Option.any_some, List.contains_eq_mem, decide_eq_false_iff_not]
    intro hmem
    obtain ⟨x, hx, hxk, -, hxp⟩ := (h.2.2 l k).1 hsb
    obtain ⟨y, hy, hyk, -, hyp⟩ := (h.2.1 l k).1 (hks k hmem)
    obtain rfl := hok.eq_of_key hx hy (hxk.trans hyk.symm)
    cases hxp.symm.trans hyp

/-- Settles O17: both are items taken out of one lane, in the order in which they stand. -/
theorem killAndRetireFreeItems : Obligations.KillAndRetireFreeItems := by
  refine ⟨?kill, ?retire⟩
  case kill =>
    intro s tag p rest k it S hs hp hk hit hair
    obtain ⟨d, hexec, henv, hed⟩ := killFreesItem s tag p rest k it hs hp hk hit hair
    obtain rfl : it.key = k := Store.item?_key hit
    have hrecords : d.world.store.records = S.records.filter (fun i => decide (i.key ≠ it.key)) := by
      refine (hed.records.trans (Store.records_without _ _ _)).trans ?_
      simp [S]
    refine ⟨d, hexec, henv, hed.keeps, hed.kept, hed.cursor, ?_, hrecords, hed.freeItems, ?_, ?_, fun l hl => ⟨?_, ?_⟩, ?_⟩
    · have hnone := Store.item?_map_record d.world.store it.key
      rw [hrecords, List.find?_filter, List.find?_eq_none.2 (by simp), Option.map_eq_none_iff] at hnone
      exact hnone
    · simpa [Store.without] using hed.freeElements
    · rw [hed.orders]
      simp [Store.without]; rfl
    · rw [hed.orders]
      exact Tbl.get_set_ne _ _ (Ne.symm hl)
    · rw [hed.standbys, Store.without]
      dsimp only
      split
      · exact Tbl.get_set_ne _ _ (Ne.symm hl)
      · rfl
    · rw [hed.standbys, Store.without]
      dsimp only [S]
      cases hsb : s.dev.world.store.standbys.get it.lane with
      | none => simpa using hsb
      | some k =>
        by_cases hk : k = it.key
        · simp [hk]
        · simpa [hk] using hsb
  case retire =>
    intro s tag p rest n upTo l walked below S done hs hp hl hok hplaced horder hupTo
    obtain ⟨d, hexec, henv, hed⟩ := retireFreesItems s tag p rest n upTo l walked below (done := done) rfl hs hp hl hok hplaced
      horder hupTo
    have hsub : (done.map (·.key)).Sublist (S.orders.get l) := by
      rw [horder]
      exact ((List.filter_sublist.map _).trans (Store.itemsOf_keys _ _)).trans (List.sublist_append_left ..)
    refine ⟨d, hexec, henv, hed.keeps, hed.kept, hed.cursor.trans (cursorAfterAll_eq (hplaced.1 l) hsub _),
      hed.records.trans (Store.records_without _ _ _), ?_, fun l' hl' => ?_, ?_, hed.freeItems, hed.freeElements⟩
    · rw [hed.orders]
      exact Tbl.get_set_self _ _ _
    · rw [hed.orders]
      exact Tbl.get_set_ne _ _ (Ne.symm hl')
    · exact hed.standbys.trans (if_neg (by rw [hplaced.standby_not_mem hok fun k hk => hsub.subset hk]; simp))

/-! ### CLEARLANE (R24, R121) -/

/-- A notice without element changes asks the recompute of an IDLE lane, and nothing else. -/
theorem World.applyNotice_idle (e : Env) {w : World} {l : Fin 4} (hs : (w.lane l).state = .idle) (n : Notice) (ha : n.onAir = [])
    (hn : n.next = []) (hd : n.disarmed = false) : World.applyNotice e w l n = w.askRecompute l := by
  have hheard : World.heard e w l n = w := by
    unfold World.heard
    rw [ha, hn]
    cases (w.lane l).next <;> rfl
  obtain ⟨v, -, hv, heq⟩ := World.applyNotice_eq e w l n (u := w) (by rw [hheard, World.deriveNext_of_same (.inl hs)])
  rw [heq, hv hd rfl, hd, hn]
  simp

/-- The keys of a lane are those of its items (R6, R7). -/
theorem Store.mem_laneKeys {s : Store} (hok : s.Ok) (h : s.Placed) {l : Fin 4} {it : Item} (hit : it ∈ s.items) :
    it.key ∈ s.laneKeys l ↔ it.lane = l := by
  have hself : ∀ x ∈ s.items, x.key = it.key → x = it := fun x hx hk => hok.eq_of_key hx hit hk
  simp only [Store.laneKeys, List.mem_append, Option.mem_toList, h.2.1 l it.key, h.2.2 l it.key]
  constructor
  · rintro (⟨x, hx, hk, hl, -⟩ | ⟨x, hx, hk, hl, -⟩)
    all_goals exact hself x hx hk ▸ hl
  · intro hl
    cases hp : it.place with
    | order => exact .inl ⟨it, hit, rfl, hl, hp⟩
    | standby => exact .inr ⟨it, hit, rfl, hl, hp⟩

/-- Every key of a lane names an item of it. -/
theorem Store.laneKeys_found {s : Store} (hok : s.Ok) (h : s.Placed) {l : Fin 4} {k : Nat} (hk : k ∈ s.laneKeys l) :
    ∃ it, s.item? k = some it ∧ it.lane = l := by
  simp only [Store.laneKeys, List.mem_append, Option.mem_toList, h.2.1 l k, h.2.2 l k] at hk
  rcases hk with ⟨x, hx, rfl, hl, -⟩ | ⟨x, hx, rfl, hl, -⟩
  all_goals exact ⟨x, hok.item?_eq hx, hl⟩

theorem Store.itemsOf_keys_eq {s : Store} {keys : List Nat} (h : ∀ k ∈ keys, (s.item? k).isSome) :
    (s.itemsOf keys).map (·.key) = keys := by
  induction keys with
  | nil => rfl
  | cons k keys ih =>
    obtain ⟨it, hit⟩ := Option.isSome_iff_exists.1 (h k (List.mem_cons_self ..))
    have hrest := ih fun k' hk' => h k' (List.mem_cons_of_mem _ hk')
    unfold Store.itemsOf at hrest ⊢
    rw [List.filterMap_cons, hit, List.map_cons, hrest, Store.item?_key hit]

theorem Store.laneKeys_nodup {s : Store} (hok : s.Ok) (h : s.Placed) (l : Fin 4) : (s.laneKeys l).Nodup := by
  unfold Store.laneKeys
  have hnot := h.standby_not_mem hok (l := l) (ks := s.orders.get l) fun k hk => hk
  cases hsb : s.standbys.get l with
  | none => simpa using h.1 l
  | some k =>
    rw [hsb] at hnot
    refine List.nodup_append.2 ⟨h.1 l, by simp, ?_⟩
    rintro a ha b hb rfl
    obtain rfl : a = k := by simpa [eq_comm] using hb
    simp [ha] at hnot

/-- A lane with all of its items taken out (R24). -/
theorem Store.without_lane {s : Store} (hok : s.Ok) (h : s.Placed) {l : Fin 4} {mine : List Item}
    (hmine : mine.map (·.key) = s.laneKeys l) :
    (s.without l mine).records = s.records.filter (fun i => decide (i.lane ≠ l)) ∧
    (s.without l mine).orders = s.orders.set l [] ∧ (s.without l mine).standbys = s.standbys.set l none := by
  refine ⟨?_, ?_, ?_⟩
  · rw [Store.records_without, hmine]
    refine List.filter_congr fun i hi => ?_
    obtain ⟨it, hit, rfl⟩ := List.mem_map.1 hi
    have hmem := Store.mem_laneKeys hok h (l := l) hit
    rw [List.contains_eq_mem, ← decide_not]
    exact decide_eq_decide.2 (not_congr hmem)
  · refine congrArg (s.orders.set l) (List.filter_eq_nil_iff.2 fun k hk => ?_)
    rw [hmine]
    simp [Store.laneKeys, hk]
  · have hall : s.standbys.get l = none ∨ (s.standbys.get l).any (mine.map (·.key)).contains = true := by
      rw [hmine]
      cases hsb : s.standbys.get l with
      | none => exact .inl rfl
      | some k => exact .inr (by simp [Store.laneKeys, hsb])
    simp only [Store.without]
    rcases hall with hnone | hany
    · rw [hnone, if_neg (by simp), ← hnone, Tbl.set_get]
    · rw [if_pos hany]

theorem clearlaneHandler_busy {d : Dev} {p : List Byte} {l : Fin 4} (hl : laneOnly p = .ok l)
    (hs : (d.world.lane l).state ≠ .idle) : clearlaneHandler d p = .error .busy := by
  simp [clearlaneHandler, hl, hs]

theorem clearlaneHandler_eq {d : Dev} {p : List Byte} {l : Fin 4} (hl : laneOnly p = .ok l)
    (hs : (d.world.lane l).state = .idle) : clearlaneHandler d p =
      (let keys := d.world.store.laneKeys l
       let w1 := (keys.foldl (fun w k => w.freeItem k) d.world).modLane l (fun r =>
         { r with cursor := none, operator := false, action := false, gate := false, gateDue := none, lastTake := none })
       .ok (.done (((d.withWorld w1).withCfg ((d.env.cfg.setLaneCfg l .default).setHardOut l none)).notice l
           (.between d.world w1 l))
         (fun _ => be 2 keys.length ++ be 2 ((d.world.store.itemsOf keys).map (·.elements.length)).sum))) := by
  exact bind_two_of_ok hl (want_eq (decide_eq_true hs)) rfl

/-- The record of a lane that CLEARLANE empties (R121). -/
def LaneRec.cleared (r : LaneRec) : LaneRec :=
  { r with cursor := none, operator := false, action := false, gate := false, gateDue := none, lastTake := none }

theorem LaneRec.cleared_standing {r : LaneRec} (hr : r.Ok) (hi : r.state = .idle) :
    r.cleared.standing = { r.standing with cursor := none, lastTake := none } := by
  obtain ⟨-, -, hop, hact, hgate, hdue⟩ := hr hi
  simp only [LaneRec.cleared, LaneRec.standing, hop, hact, hgate, hdue]

/-- A world with a lane emptied and its record cleared, up to what is due and the last rolls. -/
structure World.Emptied (v : World) (l : Fin 4) (mine : List Item) (w : World) : Prop extends v.Stands (· = l) w where
  lane : w.lane l = (v.lane l).cleared
  store : w.store = v.store.without l mine

theorem World.emptied_of_free {v u : World} {l : Fin 4} {mine : List Item} {c : Option Nat} {rolls : Tbl 64 (Option Owner)}
    (hu : u = { v.without l mine c with rolls }) : v.Emptied l mine (u.modLane l LaneRec.cleared) := by
  subst hu
  have hstands := v.without_stands l mine c rolls
  refine ⟨⟨fun l' hl => ?_, hstands.ports, hstands.stations, hstands.services, rfl, rfl, rfl, rfl⟩, ?_, rfl⟩
  · rw [World.modLane_lane, if_neg (Ne.symm hl)]
    exact hstands.lanes l' hl
  · rw [World.modLane_lane, if_pos rfl]
    exact (congrArg LaneRec.cleared (v.without_lane l mine c) :)

/-- The items of a lane's keys are all of its items. -/
theorem Store.mine_keys {s : Store} (hok : s.Ok) (h : s.Placed) (l : Fin 4) :
    (s.itemsOf (s.laneKeys l)).map (·.key) = s.laneKeys l :=
  Store.itemsOf_keys_eq fun k hk => by
    obtain ⟨it, hit, -⟩ := Store.laneKeys_found hok h hk
    exact Option.isSome_of_eq_some hit

theorem World.emptied_of_laneKeys {v : World} (hok : v.store.Ok) (h : v.store.Placed) (l : Fin 4) :
    v.Emptied l (v.store.itemsOf (v.store.laneKeys l))
      (((v.store.laneKeys l).foldl (fun w k => w.freeItem k) v).modLane l LaneRec.cleared) := by
  have hkeys := Store.mine_keys hok h l
  obtain ⟨rolls, hfree⟩ := World.freeItems_eq_without (l := l) (v.store.itemsOf (v.store.laneKeys l)) (w := v)
    (fun it hit => by
      obtain ⟨hk, hfound⟩ := Store.mem_itemsOf.1 hit
      exact (Store.mem_laneKeys hok h (List.mem_of_find?_eq_some hfound)).1 hk)
    (fun it hit => (Store.mem_itemsOf.1 hit).2) (by rw [hkeys]; exact Store.laneKeys_nodup hok h l)
  rw [hkeys] at hfree
  exact World.emptied_of_free hfree

/-- Settles O30: the lane's items are those of its keys, and its notice finds it IDLE. -/
theorem clearlaneEmptiesAnIdleLane : Obligations.ClearlaneEmptiesAnIdleLane := by
  intro s tag p rest n l w S mine hs hp hl
  have hlane : laneOnly p = .ok l := laneOnly_eq hp hl
  refine ⟨fun hb => hs.refused (clearlaneHandler_busy (d := s.begun) hlane hb), fun hidle hlok hok hplaced => ?_⟩
  have hempty := World.emptied_of_laneKeys (v := s.begun.world) hok hplaced l
  have hcount : (s.begun.world.store.laneKeys l).length = mine.length :=
    (congrArg List.length (Store.mine_keys hok hplaced l)).symm.trans (List.length_map ..)
  have heq := hs.done (clearlaneHandler_eq (d := s.begun) hlane hidle)
  rw [hcount] at heq
  refine ⟨_, heq, rfl, rfl, ?_⟩
  generalize hw1 : ((s.begun.world.store.laneKeys l).foldl (fun w k => w.freeItem k) s.begun.world).modLane l LaneRec.cleared = w1
    at hempty
  obtain ⟨hrecords, horders, hstandbys⟩ := Store.without_lane hok hplaced (Store.mine_keys hok hplaced l)
  suffices hworld : ∀ v : World, v = w1.askRecompute l → s.begun.world.Keeps v [l] ∧
      (v.lane l).standing = { (w.lane l).standing with cursor := none, lastTake := none } ∧
      v.store.records = S.records.filter (fun i => decide (i.lane ≠ l)) ∧
      v.store.orders = S.orders.set l [] ∧ v.store.standbys = S.standbys.set l none ∧
      v.store.freeItems = S.freeItems ++ mine.map (·.ref) ∧
      v.store.freeElements = S.freeElements ++ mine.flatMap (fun it => it.elements.map (·.ref)) by
    refine hworld _ ?_
    rw [← hw1]
    refine World.applyNotice_idle _ ?_ _ rfl rfl rfl
    rw [show World.lane _ l = _ from hw1 ▸ hempty.lane]
    exact hidle
  intro v hv
  have hstore : v.store = S.without l mine := by rw [hv]; exact hempty.store
  rw [hstore]
  refine ⟨?_, ?_, hrecords, horders, hstandbys, rfl, rfl⟩
  · rw [hv]
    exact World.Stands.keeps (L := (· = l)) { hempty.toStands with } fun _ => by rintro rfl; exact List.mem_singleton_self _
  · rw [hv]
    exact (congrArg LaneRec.standing hempty.lane).trans (LaneRec.cleared_standing hlok hidle)

end Sys2Proof.Machine
end

section
/-! The edits that rewrite an item where it stands (R32 to R34, R42 to R44): ADDEL, SETEL, DELEL and AMEND. -/
namespace Sys2Proof.Machine

-- One proof is checked at a time: the tests above leave little memory for proofs side by side.
set_option Elab.async false

section Handlers
variable {d : Dev} {p : List Byte} {k index : Nat} {q : ElemReq} {c : Content} {it : Item} {el : Element}

theorem ElemReq.create_eq (hc : q.content (.clip 0 0) = some c) : q.create = some (c, min (q.offset.getD 0) 1048575) := by
  rw [ElemReq.create, hc]
  rfl

theorem gatingFits_eq {offset : Nat} (h : c.isGating = true → offset = 0) : gatingFits c offset = true := by
  cases hg : c.isGating with
  | false => simp [gatingFits, hg]
  | true => simp [gatingFits, h hg]

theorem setelHandler_eq (hp : readAll readAddel p = some (k, index, q)) (hk : k ≠ 0) (hq : q.inRange = true)
    (hit : d.world.item? k = some it) (hel : it.elements[index]? = some el) (hc : q.content el.content = some c)
    {offset : Nat} (ho : (q.offset.map (min 1048575)).getD el.offset = offset)
    (hg : c.isGating = true → offset = 0 ∧ ∀ x, it.gating? = some x → x.ref = el.ref)
    (hair : it.state = .onAir → el.fire ≠ .sent) : setelHandler d p =
      if c = el.content ∧ offset = el.offset then .ok (.same (revReply k d)) else
        .ok (.done (d.editElement (d.world.modItem k (Item.setElement index el.ref c offset)) it
          (if c.untimed = el.content.untimed then .retimed (it.refOf el) else .retargeted (it.refOf el) el)) (revReply k)) := by
  have hclamp : (q.offset.map clampDuration).getD el.offset = offset := by
    rw [← ho]
    cases q.offset <;> simp [clampDuration, Config.maxDuration, Nat.min_comm]
  have hgate : (!(c.isGating && it.gating?.elim false (fun x => decide (x.ref ≠ el.ref)))) = true := by
    cases hi : c.isGating with
    | false => rfl
    | true =>
      cases hgx : it.gating? with
      | none => rfl
      | some x => simp [(hg hi).2 x hgx]
  have hsent : (!(decide (it.state = .onAir) && decide (el.fire = .sent))) = true := by simpa [imp_iff_not_or] using hair
  subst hclamp
  refine (bind_of_ok (fields_eq hp)).trans (bind_four_of_ok (itemKey_eq hk) (want_eq hq) (Dev.find_eq hit) (need_of_some hel)
    (bind_four_of_ok (need_of_some hc) (want_eq (gatingFits_eq fun h => (hg h).1)) (want_eq (?_ : _ = true)) (want_eq hsent) rfl))
  cases hgx : it.gating? <;> rw [hgx] at hgate <;> exact hgate

end Handlers

/-- An edit that writes the store, and of the rest what no obligation of the edits speaks of, its element change listed for the lane. -/
theorem Dev.editElement_edited (d : Dev) {v : World} (s : Store) (it : Item) (c : ElemChange) (hs : d.world.Stands (· = it.lane) v)
    (hk : (v.lane it.lane).kept = (d.world.lane it.lane).kept) :
    d.world.Edited it.lane (v.lane it.lane).cursor s (d.editElement (v.setStore s) it c).world :=
  d.notice_edited _ s hs hk

/-! ### SETEL (R43) -/

theorem Element.rewritten_renew (c : Content) (offset : Nat) (el : Element) :
    (el.rewritten c offset).renew = Element.create el.ref c offset := by
  unfold Element.rewritten
  dsimp only
  split <;> rfl

theorem modElems_renew (els : List Element) (ref : Ref) {f g : Element → Element} (hf : ∀ el, (f el).renew = g el.renew) :
    (modElems els ref f).map Element.renew = (els.map Element.renew).map (fun x => if x.ref = ref then g x else x) := by
  rw [modElems, List.map_map, List.map_map]
  refine List.map_congr_left fun el _ => ?_
  simp only [Function.comp, show el.renew.ref = el.ref from rfl]
  split <;> [exact hf el; rfl]

theorem Item.setElement_record (index : Nat) (ref : Ref) (c : Content) (offset : Nat) (it : Item) :
    (it.setElement index ref c offset).record = { it.record with
      elements := it.record.elements.map (fun x => if x.ref = ref then Element.create x.ref c offset else x)
      endMode := if it.record.endMode = .clip index ∧ c.isClip = false then .manual else it.record.endMode
      rev := it.record.rev + 1 } := by
  have hmode : it.endMode.index? = some index ↔ it.endMode = .clip index := by
    cases it.endMode <;> simp [EndMode.index?]
  have hels := modElems_renew it.elements ref (f := Element.rewritten c offset) (g := fun x => Element.create x.ref c offset)
    fun el => Element.rewritten_renew c offset el
  simp only [Item.setElement, Item.record, hels, hmode]
  rfl

/-- Settles O19: the handler rewrites the one element. -/
theorem setelRewritesOneElement : Obligations.SetelRewritesOneElement := by
  intro s tag p rest k index q c it el S offset hs hp hk hq hit hel hc hg hair
  have heq := setelHandler_eq (d := s.begun) hp hk hq hit hel hc (offset := offset) rfl hg hair
  refine ⟨fun h1 h2 => hs.same (heq.trans (if_pos ⟨h1, h2⟩)), fun hne => ?_⟩
  have hed := s.begun.editElement_edited (s.begun.world.store.modItem k (Item.setElement index el.ref c offset)) it
    (if c.untimed = el.content.untimed then .retimed (it.refOf el) else .retargeted (it.refOf el) el) (.refl _ s.begun.world) rfl
  exact ⟨_, hs.done (heq.trans (if_neg (by rwa [not_and_or]))), rfl, hed.keeps, hed.kept, hed.cursor,
    hed.records.trans (Store.records_modItem _ k (Item.setElement_record index el.ref c offset)), hed.freeElements,
    hed.freeItems, hed.orders, hed.standbys⟩

/-! ### ADDEL and DELEL (R42, R44) -/

theorem addelHandler_eq {d : Dev} {p : List Byte} {k index : Nat} {q : ElemReq} {c : Content} {it : Item} {ref : Ref} {free : List Ref}
    (hp : readAll readAddel p = some (k, index, q)) (hk : k ≠ 0) (hq : q.inRange = true)
    (hc : q.content (.clip 0 0) = some c) (hg : c.isGating = true → min (q.offset.getD 0) 1048575 = 0 ∧ it.gating? = none)
    (hit : d.world.item? k = some it) (hi : index ≤ it.elements.length) (hlen : it.elements.length < 32)
    (hfree : d.world.store.freeElements = ref :: free) : addelHandler d p =
      (let el := Element.create ref.allocated c (min (q.offset.getD 0) 1048575)
       .ok (.done (d.editElement (d.world.setStore
           (Store.modItem { d.world.store with freeElements := free } k (Item.addElement index el))) it (.added (it.refOf el)))
         (revReply k))) := by
  have hgate : (!(c.isGating && it.gating?.isSome)) = true := by
    cases hi : c.isGating with
    | false => rfl
    | true => simp [(hg hi).2]
  have halloc : allocate d.world.store.freeElements 1 = some ([ref.allocated], free) := by
    rw [hfree]
    simp [allocate]
  refine (bind_of_ok (fields_eq hp)).trans (bind_two_of_ok (itemKey_eq hk) (want_eq hq) ((bind_of_ok (need_of_some
    (ElemReq.create_eq hc))).trans (bind_four_of_ok (want_eq (gatingFits_eq fun h => (hg h).1)) (Dev.find_eq hit) (want_eq hgate)
      (want_eq (decide_eq_true hi)) (bind_two_of_ok (want_eq (decide_eq_true hlen)) (need_of_some halloc) rfl))))

theorem delelHandler_eq {d : Dev} {p : List Byte} {k index : Nat} {it : Item} {el : Element}
    (hp : readAll readDelel p = some (k, index)) (hk : k ≠ 0) (hit : d.world.item? k = some it)
    (hel : it.elements[index]? = some el) : delelHandler d p =
      .ok (.done (d.editElement ((d.world.forgetRoll (it.refOf el)).setStore
        { d.world.store.modItem k (Item.deleteElement index) with freeElements := d.world.store.freeElements ++ [el.ref] }) it
        (.removed (it.refOf el) el index)) (revReply k)) := by
  exact (bind_of_ok (fields_eq hp)).trans (bind_two_of_ok (itemKey_eq hk) (Dev.find_eq hit) (bind_of_ok (need_of_some hel)))

theorem Cycle.inserted_eq (index : Nat) (x : Cycle) : Cycle.inserted index x =
    if index ≤ x.first then
      (if 31 < x.first + 1 then none else some { x with first := x.first + 1, last := min 31 (x.last + 1) })
    else if index ≤ x.last then some { x with last := min 31 (x.last + 1) } else some x := by
  simp only [Cycle.inserted, Nat.lt_succ_iff, Nat.min_comm 31]

theorem Item.addElement_record (index : Nat) {el : Element} (hel : el.renew = el) (it : Item) :
    (it.addElement index el).record = { it.record with
      elements := it.record.elements.take index ++ el :: it.record.elements.drop index
      endMode := EndMode.inserted index it.record.endMode
      cycle := it.record.cycle.bind (Cycle.inserted index)
      rev := it.record.rev + 1 } := by
  simp only [Item.addElement, Item.record, insertAt, List.map_append, List.map_cons, List.map_take, List.map_drop, hel]
  rfl

theorem Item.deleteElement_record (index : Nat) (it : Item) :
    (it.deleteElement index).record = { it.record with
      elements := it.record.elements.take index ++ it.record.elements.drop (index + 1)
      endMode := EndMode.deleted index it.record.endMode
      cycle := it.record.cycle.bind (Cycle.deleted index)
      rev := it.record.rev + 1 } := by
  simp only [Item.deleteElement, Item.record, List.eraseIdx_eq_take_drop_succ, List.map_append, List.map_take, List.map_drop]
  rfl

/-- Settles O18: the end clip and the cycle follow as R11 and R13 state. -/
theorem addelAndDelelChangeTheList : Obligations.AddelAndDelelChangeTheList := by
  refine ⟨?addel, ?delel⟩
  case addel =>
    intro s tag p rest k index q c it ref free S offset hs hp hk hq hc hg hit hi hlen hfree
    have hed := s.begun.editElement_edited (Store.modItem { s.begun.world.store with freeElements := free } k
      (Item.addElement index (Element.create ref.allocated c offset))) it
      (.added (it.refOf (Element.create ref.allocated c offset))) (.refl _ s.begun.world) rfl
    refine ⟨_, hs.done (addelHandler_eq (d := s.begun) hp hk hq hc hg hit hi hlen hfree), rfl, hed.keeps, hed.kept, hed.cursor, ?_,
      hed.freeElements, hed.freeItems, hed.orders, hed.standbys⟩
    refine hed.records.trans (Store.records_modItem _ k fun i => (Item.addElement_record index rfl i).trans ?_)
    have hcycle : Cycle.inserted index = _ := funext (Cycle.inserted_eq index)
    rw [hcycle]
    cases i.record.endMode <;> rfl
  case delel =>
    intro s tag p rest k index it el S hs hp hk hit hel
    have hstands : s.begun.world.Stands (· = it.lane) (s.begun.world.forgetRoll (it.refOf el)) := { World.Stands.refl _ s.begun.world with }
    have hed := s.begun.editElement_edited
      { s.begun.world.store.modItem k (Item.deleteElement index) with freeElements := s.begun.world.store.freeElements ++ [el.ref] }
      it (.removed (it.refOf el) el index) hstands rfl
    refine ⟨_, hs.done (delelHandler_eq (d := s.begun) hp hk hit hel), rfl, hed.keeps, hed.kept, hed.cursor, ?_,
      hed.freeElements, hed.freeItems, hed.orders, hed.standbys⟩
    refine hed.records.trans (Store.records_modItem s.begun.world.store k fun i => (Item.deleteElement_record index i).trans ?_)
    cases hm : i.record.endMode with
    | clip j => simp only [EndMode.deleted, eq_comm (a := index)]; rfl
    | manual => rfl
    | timed => rfl

/-! ### AMEND (R32 to R34) -/

theorem World.Edited.refl (v : World) (l : Fin 4) : v.Edited l (v.lane l).cursor v.store v :=
  World.edited_of_derives (.refl _ v) rfl (.refl _ v)

/-- The store after an AMEND's absorber field (R12). -/
def AmendReq.lost (q : AmendReq) (s : Store) (l : Fin 4) : Store :=
  if q.absorber.value?.isSome then s.loseAbsorber l q.key else s

/-- The item after an AMEND, with its rev (R18). -/
def AmendReq.rewritten (q : AmendReq) (it i : Item) : Item := if q.amended it = it then i else (q.amended it).revised

theorem amendHandler_eq {d : Dev} {p : List Byte} {q : AmendReq} {it : Item} (hp : readAll readAmend p = some q) (hk : q.key ≠ 0)
    (hit : d.world.item? q.key = some it) (hlabel : ∀ t, q.label = some t → t.all isPrintable = true)
    (habs : ∀ a, q.absorber = .given a → a.1 ≤ a.2) (hcycle : ∀ c, q.cycle = .given c → c.1 ≤ 31 ∧ c.2.1 ≤ 31)
    (hmode : endModeFits it.elements (q.endMode.getD .manual) = true) (hrev : ∀ r, q.rev = some r → r = it.rev.toNat)
    (hair : it.state = .onAir → q.absorber = .absent) : amendHandler d p =
      if q.amended it = it ∧ q.lost d.world.store it.lane = d.world.store then .ok (.same (revReply q.key d)) else
        .ok (.done (d.edit (d.world.setStore ((q.lost d.world.store it.lane).modItem q.key (q.rewritten it))) it.lane false)
          (revReply q.key)) := by
  have h1 : checkLabel q.label = .ok () := by
    cases hq : q.label with
    | none => rfl
    | some t => exact want_eq (hlabel t hq)
  have h2 : checkAbsorber q.absorber.value? = .ok () := by
    cases hq : q.absorber with
    | given a => exact want_eq (decide_eq_true (habs a hq))
    | absent => rfl
    | word => rfl
  have h3 : checkCycle q.cycle.value? = .ok () := by
    cases hq : q.cycle with
    | given c =>
      obtain ⟨first, last, period⟩ := c
      exact want_eq (by simpa [Field.value?, -and_imp] using hcycle _ hq)
    | absent => rfl
    | word => rfl
  have h4 : (!(decide (it.state = .onAir) && decide (q.absorber ≠ .absent))) = true := by simpa [imp_iff_not_or] using hair
  have hkey : it.key = q.key := Store.item?_key hit
  refine bind_four_of_ok (fields_eq hp) (itemKey_eq hk) h1 h2 (bind_four_of_ok h3 (Dev.find_eq hit) (want_eq hmode)
    (want_eq (?_ : _ = true)) ((bind_of_ok (want_eq h4)).trans ?_))
  · cases hr : q.rev with
    | none => rfl
    | some r => exact decide_eq_true (hrev r hr).symm
  · rw [hkey]
    rfl

theorem Store.loseAbsorber_records (s : Store) (l : Fin 4) (k : Nat) :
    (s.loseAbsorber l k).records = s.records.map (fun i => if i.lane = l ∧ i.key ≠ k ∧ i.absorber.isSome then
      { i with absorber := none, rev := i.rev + 1 } else i) := by
  simp only [Store.loseAbsorber, Store.records, List.map_map]
  refine List.map_congr_left fun i _ => ?_
  simp only [Function.comp]
  by_cases hi : i.lane = l ∧ i.key ≠ k ∧ i.absorber.isSome
  · rw [if_pos hi]
    exact (if_pos hi).symm
  · rw [if_neg hi]
    exact (if_neg hi).symm

theorem AmendReq.records_eq (q : AmendReq) (s : Store) (it : Item) :
    ((q.lost s it.lane).modItem q.key (q.rewritten it)).records = s.records.map (fun i =>
      if i.key = q.key then (if q.amended it = it then i else (q.amended it).revised.record)
      else if q.absorber.value?.isSome ∧ i.lane = it.lane ∧ i.absorber.isSome then
        { i with absorber := none, rev := i.rev + 1 } else i) := by
  have hlost : (q.lost s it.lane).records = s.records.map (fun i =>
      if q.absorber.value?.isSome ∧ i.lane = it.lane ∧ i.key ≠ q.key ∧ i.absorber.isSome then
        { i with absorber := none, rev := i.rev + 1 } else i) := by
    unfold AmendReq.lost
    by_cases hv : q.absorber.value?.isSome = true
    · simp only [hv, if_true, true_and, Store.loseAbsorber_records]
    · simp [hv]
  have hrew : ∀ i, (q.rewritten it i).record = if q.amended it = it then i.record else (q.amended it).revised.record := by
    intro i
    unfold AmendReq.rewritten
    split <;> rfl
  rw [Store.records_modItem _ q.key (g := fun i => if q.amended it = it then i else (q.amended it).revised.record) hrew, hlost,
    List.map_map]
  refine List.map_congr_left fun i _ => ?_
  simp only [Function.comp]
  by_cases hk : i.key = q.key
  · simp [hk]
  · simp only [hk, ne_eq, not_false_eq_true, true_and, if_false]
    split <;> rfl

/-- Settles O14: the amended item is the model's, and an AMEND that changes nothing leaves the records as they were. -/
theorem amendWritesTheFieldsItCarries : Obligations.AmendWritesTheFieldsItCarries := by
  intro s tag p rest q it S planned amended hs hp hk hit hok hlabel habs hcycle hmode hrev hair
  have hplanned : (q.planned.map clampDuration).getD it.planned = planned := by
    unfold planned
    cases q.planned with
    | none => rfl
    | some n => exact Nat.min_comm _ _
  have hamended : q.amended it = amended := by
    unfold amended AmendReq.amended
    rw [hplanned]
    cases q.absorber <;> cases q.cycle <;> rfl
  have heq := amendHandler_eq (d := s.begun) hp hk hit hlabel habs hcycle hmode hrev hair
  have hrecords : ((q.lost S it.lane).modItem q.key (q.rewritten it)).records = _ := q.records_eq S it
  rw [hamended] at heq hrecords
  by_cases hsame : amended = it ∧ q.lost S it.lane = S
  · have hself : (q.lost S it.lane).modItem q.key (q.rewritten it) = S := by
      have hid : q.rewritten it = id := funext fun i => if_pos (hamended.trans hsame.1)
      rw [hsame.2, hid]
      simp [Store.modItem]
    have hed := World.Edited.refl s.begun.world it.lane
    rw [hself] at hrecords
    exact ⟨s.begun, .inr ⟨rfl, hs.same (heq.trans (if_pos hsame))⟩, rfl, hed.keeps, hed.kept, hed.cursor, hrecords, rfl, rfl, rfl,
      rfl⟩
  · have hed := s.begun.write_edited it.lane { Notice.between s.begun.world (s.begun.world.setStore
      ((q.lost S it.lane).modItem q.key (q.rewritten it))) it.lane with disarmed := false }
      ((q.lost S it.lane).modItem q.key (q.rewritten it))
    have hlost : ∀ {β : Type} (g : Store → β), (∀ items, g { S with items } = g S) →
        g ((q.lost S it.lane).modItem q.key (q.rewritten it)) = g S := by
      intro β g hg
      unfold AmendReq.lost
      split <;> exact hg _
    exact ⟨_, .inl (hs.done (heq.trans (if_neg hsame))), rfl, hed.keeps, hed.kept, hed.cursor, hed.records.trans hrecords,
      hed.freeItems.trans (hlost (·.freeItems) fun _ => rfl), hed.freeElements.trans (hlost (·.freeElements) fun _ => rfl),
      hed.orders.trans (hlost (·.orders) fun _ => rfl), hed.standbys.trans (hlost (·.standbys) fun _ => rfl)⟩

end Sys2Proof.Machine
end

section
/-! The edits that make or place items (R28 to R31, R35, R36, R45): INSERT, MOVE and STAMP. -/
namespace Sys2Proof.Machine

-- One proof is checked at a time: the tests above leave little memory for proofs side by side.
set_option Elab.async false

/-! ### Places in an order (R6) -/

/-- Keys are put into an order at one place: at its bottom, or immediately above the key that is named. -/
theorem placeBefore_eq {order : List Nat} {before : Nat} (keys : List Nat) (h : before = 0 ∨ before ∈ order) :
    ∃ up down, order = up ++ down ∧ placeBefore order before keys = up ++ keys ++ down ∧ (before = 0 → down = []) ∧
      (before ≠ 0 → down.head? = some before) := by
  by_cases h0 : before = 0
  · exact ⟨order, [], (List.append_nil _).symm, by simp [placeBefore, h0], fun _ => rfl, fun hne => absurd h0 hne⟩
  · refine ⟨_, _, List.takeWhile_append_dropWhile.symm, if_neg h0, fun hz => absurd hz h0, fun _ => ?_⟩
    obtain ⟨up, down, rfl, hup⟩ := List.eq_append_cons_of_mem (h.resolve_left h0)
    rw [List.dropWhile_append_of_pos fun a ha => decide_eq_true (by rintro rfl; exact hup ha)]
    simp

/-! ### INSERT (R28 to R31) -/

/-- The elements that an INSERT copies stand on the first free records. -/
theorem copyElements_eq (free : List Ref) (src : List Element) :
    copyElements ((free.take src.length).map Ref.allocated) src =
      List.zipWith (fun r el => Element.create r.allocated el.content el.offset) free src := by
  induction src generalizing free with
  | nil => simp [copyElements]
  | cons el src ih =>
    induction free with
    | nil => rfl
    | cons r free =>
      have := ih free
      simp only [copyElements] at this
      simpa [copyElements] using this

theorem copyElements_renew (refs : List Ref) (els : List Element) :
    (copyElements refs els).map Element.renew = copyElements refs els := by
  simp only [copyElements, List.map_map]
  exact List.map_congr_left fun x _ => rfl

/-- Where an INSERT may put its item (R28, R29). -/
def Store.takes (s : Store) (l : Fin 4) : Position → Prop
  | .before k => k = 0 ∨ (k ∈ s.orders.get l ∧ ∃ b, s.item? k = some b ∧ b.lane = l ∧ b.place = .order)
  | .standby => s.standbys.get l = none

/-- The store after an INSERT that is not refused. -/
def InsertReq.stored (q : InsertReq) (s : Store) (l : Fin 4) (it : Item) (freeItems freeElements : List Ref) : Store :=
  if it.absorber.isSome then (s.insert l q.position it freeItems freeElements).loseAbsorber l it.key
  else s.insert l q.position it freeItems freeElements

theorem Dev.insertBefore_eq {d : Dev} {l : Fin 4} {position : Position} (h : d.world.store.takes l position) :
    ∃ o : Option Item, (o.elim true fun it => decide (it.lane = l) && decide (it.place = .order)) = true ∧
      ∀ {β : Type} (f : Option Item → Except Status β), (match (generalizing := false) position with
        | .before 0 => .ok none >>= f
        | .before k => d.find k >>= fun it => .ok (some it) >>= f
        | .standby => .ok none >>= f) = f o := by
  induction position with
  | standby => exact ⟨none, rfl, fun f => rfl⟩
  | before k =>
    rcases h with rfl | ⟨-, b, hb, hbl, hbp⟩
    · exact ⟨none, rfl, fun f => rfl⟩
    · induction k with
      | zero => exact ⟨none, rfl, fun f => rfl⟩
      | succ k => exact ⟨some b, by simp [hbl, hbp], fun f => bind_of_ok (Dev.find_eq hb)⟩

section Insert
variable {d : Dev} {p : List Byte} {q : InsertReq} {l : Fin 4} {src : List Element} {ref : Ref} {freeItems : List Ref}

theorem insertHandler_eq (hp : readAll readInsert p = some q) (hl : place? 4 q.lane = some l) (hk : q.key ≠ 0)
    (hlabel : ∀ t, q.label = some t → t.all isPrintable = true) (habs : ∀ a, q.absorber = some a → a.1 ≤ a.2)
    (hcycle : ∀ c, q.cycle = some c → c.1 ≤ 31 ∧ c.2.1 ≤ 31)
    (hsrc : (q.source = none ∧ src = []) ∨
      ∃ k it, k ≠ 0 ∧ q.source = some k ∧ d.world.store.item? k = some it ∧ src = it.elements)
    (hmode : endModeFits src (q.endMode.getD .manual) = true) (hnew : d.world.store.item? q.key = none)
    (hplace : d.world.store.takes l q.position) (hfree : d.world.store.freeItems = ref :: freeItems)
    (hroom : src.length ≤ d.world.store.freeElements.length) :
    let it := q.item l ref.allocated (copyElements ((d.world.store.freeElements.take src.length).map Ref.allocated) src)
    let free := d.world.store.freeElements.drop src.length
    let w := d.world.setStore (q.stored d.world.store l it freeItems free)
    let n := Notice.between d.world w l
    insertHandler d p = .ok (.done ((d.withWorld w).notice l { n with
      included := n.included ||
        decide (q.stored d.world.store l it freeItems free ≠ d.world.store.insert l q.position it freeItems free) })
      (revReply q.key)) := by
  intro it free w n
  have h1 : checkLabel q.label = .ok () := by
    cases hq : q.label with
    | none => rfl
    | some t => exact want_eq (hlabel t hq)
  have h2 : checkAbsorber q.absorber = .ok () := by
    cases hq : q.absorber with
    | none => rfl
    | some a => exact want_eq (decide_eq_true (habs a hq))
  have h3 : checkCycle q.cycle = .ok () := by
    cases hq : q.cycle with
    | none => rfl
    | some c =>
      obtain ⟨first, last, period⟩ := c
      exact want_eq (by simpa [-and_imp] using hcycle _ hq)
  have hitems : allocate d.world.store.freeItems 1 = some ([ref.allocated], freeItems) := by
    rw [hfree]
    simp [allocate]
  have helems : allocate d.world.store.freeElements src.length =
      some ((d.world.store.freeElements.take src.length).map Ref.allocated, d.world.store.freeElements.drop src.length) :=
    if_neg (by omega)
  have hsource : q.source ≠ some 0 ∧ q.source.map d.world.item? ≠ some none := by
    rcases hsrc with ⟨hs, -⟩ | ⟨k, x, hk0, hs, hx, -⟩
    · simp [hs]
    · simp only [hs, Option.map_some, show d.world.item? k = some x from hx]
      simp [hk0]
  have hstandby : (!(decide (q.position = .standby) && d.world.hasStandby l)) = true := by
    cases hq : q.position with
    | before k => simp
    | standby =>
      rw [hq] at hplace
      simp [World.hasStandby, show d.world.store.standbys.get l = none from hplace]
  have hcopied : (match q.source.map d.world.item? with | some (some it) => it.elements | _ => []) = src := by
    rcases hsrc with ⟨hs, hx⟩ | ⟨k, x, -, hs, hx, hels⟩
    · rw [hs]
      exact hx.symm
    · rw [hs, Option.map_some, show d.world.item? k = some x from hx]
      exact hels.symm
  obtain ⟨o, hguard, hbefore⟩ := Dev.insertBefore_eq hplace
  have hmode' : (decide (q.source.map d.world.item? = some none) || endModeFits src (q.endMode.getD .manual)) = true := by
    rw [Bool.or_eq_true]
    exact .inr hmode
  subst hcopied
  refine bind_four_of_ok (fields_eq hp) (numbered_eq hl) (itemKey_eq hk) h1 (bind_four_of_ok h2 h3
    (want_eq (decide_eq_true hsource.1)) (want_eq hmode') ((bind_of_ok (want_eq (Option.isNone_iff_eq_none.2 hnew))).trans
      ((hbefore _).trans (bind_four_of_ok (want_eq (decide_eq_true hsource.2)) (want_eq (?_ : _ = true)) (want_eq hstandby)
        (need_of_some hitems) ((bind_of_ok (need_of_some helems)).trans rfl)))))
  induction o <;> exact hguard

end Insert

theorem InsertReq.records_eq {q : InsertReq} {s : Store} {l : Fin 4} {ref : Ref} {els : List Element} {freeItems freeElements : List Ref}
    (hnew : s.item? q.key = none) (hels : els.map Element.renew = els) :
    (q.stored s l (q.item l ref els) freeItems freeElements).records =
      s.records.map (fun it => if q.absorber.isSome ∧ it.lane = l ∧ it.absorber.isSome then
        { it with absorber := none, rev := it.rev + 1 } else it) ++ [q.item l ref els] := by
  have hrecord : (q.item l ref els).record = q.item l ref els := by
    simp only [Item.record, InsertReq.item, hels]
  have hinsert : (s.insert l q.position (q.item l ref els) freeItems freeElements).records = s.records ++ [q.item l ref els] := by
    have hitems : (s.insert l q.position (q.item l ref els) freeItems freeElements).items = s.items ++ [q.item l ref els] := by
      unfold Store.insert
      cases q.position <;> rfl
    rw [Store.records, hitems, List.map_append, List.map_singleton, hrecord]
    rfl
  have hkey : ∀ i ∈ s.records, i.key ≠ q.key := by
    intro i hi hik
    obtain ⟨x, hx, rfl⟩ := List.mem_map.1 hi
    have := List.find?_eq_none.1 hnew x hx
    exact this (decide_eq_true hik)
  have habs : (q.item l ref els).absorber.isSome = q.absorber.isSome := Option.isSome_map ..
  unfold InsertReq.stored
  rw [habs]
  cases ha : q.absorber.isSome with
  | false => simp [hinsert]
  | true =>
    rw [if_pos rfl, Store.loseAbsorber_records, hinsert, List.map_append, List.map_singleton, if_neg (fun h => h.2.1 rfl)]
    congr 1
    refine List.map_congr_left fun i hi => ?_
    have hne : i.key ≠ (q.item l ref els).key := hkey i hi
    simp [hne]

section Stored
variable (q : InsertReq) (s : Store) (l : Fin 4) (it : Item) (freeItems freeElements : List Ref)

/-- What of the store is no item of it: an absorber lost leaves it. -/
theorem InsertReq.stored_rest {β : Type} (g : Store → β) (hg : ∀ (s : Store) items, g { s with items } = g s) :
    g (q.stored s l it freeItems freeElements) = g (s.insert l q.position it freeItems freeElements) := by
  unfold InsertReq.stored
  split
  · exact hg _ _
  · rfl

theorem InsertReq.stored_pools : (q.stored s l it freeItems freeElements).freeItems = freeItems ∧
    (q.stored s l it freeItems freeElements).freeElements = freeElements := by
  rw [q.stored_rest s l it freeItems freeElements (·.freeItems) fun _ _ => rfl,
    q.stored_rest s l it freeItems freeElements (·.freeElements) fun _ _ => rfl]
  cases q.position <;> exact ⟨rfl, rfl⟩

theorem InsertReq.stored_before {k : Nat} (hq : q.position = .before k) (hk : k = 0 ∨ k ∈ s.orders.get l) :
    (q.stored s l it freeItems freeElements).standbys = s.standbys ∧
    (∀ l', l' ≠ l → (q.stored s l it freeItems freeElements).orders.get l' = s.orders.get l') ∧
    ∃ up down, s.orders.get l = up ++ down ∧ (q.stored s l it freeItems freeElements).orders.get l = up ++ it.key :: down ∧
      (k = 0 → down = []) ∧ (k ≠ 0 → down.head? = some k) := by
  rw [q.stored_rest s l it freeItems freeElements (·.orders) fun _ _ => rfl,
    q.stored_rest s l it freeItems freeElements (·.standbys) fun _ _ => rfl, hq]
  obtain ⟨up, down, hup, hput, hplace⟩ := placeBefore_eq [it.key] hk
  exact ⟨rfl, fun l' hl' => Tbl.get_set_ne _ _ (Ne.symm hl'), up, down, hup,
    ((Tbl.get_set_self _ _ _).trans hput).trans (List.append_assoc ..), hplace⟩

theorem InsertReq.stored_standby (hq : q.position = .standby) :
    (q.stored s l it freeItems freeElements).orders = s.orders ∧
    (q.stored s l it freeItems freeElements).standbys.get l = some it.key ∧
    ∀ l', l' ≠ l → (q.stored s l it freeItems freeElements).standbys.get l' = s.standbys.get l' := by
  rw [q.stored_rest s l it freeItems freeElements (·.orders) fun _ _ => rfl,
    q.stored_rest s l it freeItems freeElements (·.standbys) fun _ _ => rfl, hq]
  exact ⟨rfl, Tbl.get_set_self _ _ _, fun l' hl' => Tbl.get_set_ne _ _ (Ne.symm hl')⟩

end Stored

/-- Settles O13: the item stands on the first free records, at the place that the request names. -/
theorem insertCreatesTheItem : Obligations.InsertCreatesTheItem := by
  intro s tag p rest q l src ref freeItems S hs hp hl hk hlabel habs hcycle hsrc hmode hnew hplace hfree hroom
  have hplace' : S.takes l q.position := by
    cases hq : q.position <;> rw [hq] at hplace <;> exact hplace
  refine (hs.written (insertHandler_eq (d := s.begun) hp hl hk hlabel habs hcycle hsrc hmode hnew hplace' hfree hroom)).imp
    fun d hd => ?_
  have hed := hd.2.2
  refine ⟨hd.1, hd.2.1, hed.keeps, hed.kept, hed.cursor, hed.records.trans ((InsertReq.records_eq hnew (copyElements_renew _ _)).trans ?_),
    hed.freeItems.trans (InsertReq.stored_pools ..).1, hed.freeElements.trans (InsertReq.stored_pools ..).2, ?_⟩
  · rw [copyElements_eq]
    unfold InsertReq.item
    cases q.position <;> rfl
  · rw [hed.orders, hed.standbys]
    cases hq : q.position with
    | before k => exact q.stored_before S l _ _ _ hq ((hq ▸ hplace).imp_right And.left)
    | standby => exact q.stored_standby S l _ _ _ hq

end Sys2Proof.Machine
end

section
/-! STAMP (R45, R46): the items that it chooses, and the copies that it gives them. -/
namespace Sys2Proof.Machine

-- One proof is checked at a time: the tests above leave little memory for proofs side by side.
set_option Elab.async false

/-! ### What is chosen and given (R45) -/

/-- Every `n`-th of a list from the one at which the count is due: those whose index the stride divides. -/
theorem everyNth_eq {α : Type} {n : Nat} (xs : List α) : ∀ {m k : Nat}, m < n → (k + m) % n = 0 →
    everyNth n m xs = ((xs.zipIdx k).filter (fun x => decide (x.2 % n = 0))).map (·.1) := by
  induction xs with
  | nil => intro m k _ _; induction m <;> rfl
  | cons a xs ih =>
    intro m k hm hk
    rw [List.zipIdx_cons]
    induction m with
    | zero =>
      rw [Nat.add_zero] at hk
      have hnext : (k + 1 + (n - 1)) % n = 0 := by
        rw [show k + 1 + (n - 1) = k + n by omega, Nat.add_mod_right]
        exact hk
      rw [everyNth, ih (by omega) hnext, List.filter_cons, if_pos (decide_eq_true hk), List.map_cons]
    | succ m =>
      have hskip : ¬ k % n = 0 := by
        intro h0
        have : (m + 1) % n = 0 := by
          rw [Nat.add_mod, h0, Nat.zero_add, Nat.mod_mod] at hk
          exact hk
        rw [Nat.mod_eq_of_lt hm] at this
        omega
      rw [everyNth, ih (k := k + 1) (by omega) (by rw [show k + 1 + m = k + (m + 1) by omega]; exact hk), List.filter_cons,
        if_neg (by simpa using hskip)]

theorem Store.item?_modItem (s : Store) (k k' : Nat) {f : Item → Item} (hf : ∀ i, (f i).key = i.key) :
    (s.modItem k f).item? k' = (s.item? k').map (fun i => if k' = k then f i else i) := by
  have hkey : ∀ i : Item, (if i.key = k then f i else i).key = i.key := fun i => by split <;> [exact hf i; rfl]
  rw [Store.item?, Store.modItem, List.find?_map]
  simp only [Function.comp_def, hkey]
  cases hit : s.items.find? (fun i => decide (i.key = k')) with
  | none => simp [Store.item?, hit]
  | some i =>
    have hk : i.key = k' := Store.item?_key hit
    simp [Store.item?, hit, hk]

/-- An item with a copy of an element at the end of its list (R45). -/
def Item.given (c : Content) (offset : Nat) (ref : Ref) (i : Item) : Item :=
  { i.revised with elements := i.elements ++ [Element.create ref c offset] }

theorem Item.given_record (c : Content) (offset : Nat) (ref : Ref) (i : Item) : (i.given c offset ref).record =
    { i.record with elements := i.record.elements ++ [Element.create ref c offset], rev := i.record.rev + 1 } := by
  simp only [Item.given, Item.record, List.map_append]
  rfl

/-- Each item that is given an element has it, and the others are as they were. -/
theorem Store.item?_stamp (c : Content) (offset : Nat) (xs : List (Item × Ref)) (hn : (xs.map (·.1.key)).Nodup) (s : Store) (k : Nat) :
    (s.stamp c offset xs).item? k = (s.item? k).map (fun i =>
      (xs.find? (fun x => decide (x.1.key = k))).elim i (fun x => i.given c offset x.2)) := by
  induction xs generalizing s with
  | nil => simp [Store.stamp]
  | cons x xs ih =>
    obtain ⟨it, ref⟩ := x
    rw [List.map_cons, List.nodup_cons] at hn
    rw [Store.stamp, ih hn.2]
    rw [show (s.modItem it.key fun i => { i.revised with elements := i.elements ++ [Element.create ref c offset] }) =
      s.modItem it.key (Item.given c offset ref) from rfl, Store.item?_modItem s it.key k (f := Item.given c offset ref) (by intro i; rfl), Option.map_map]
    congr 1
    funext i
    by_cases hk : k = it.key
    · subst hk
      have hnone : xs.find? (fun x => decide (x.1.key = it.key)) = none := by
        rw [List.find?_eq_none]
        intro x hx hxk
        exact hn.1 (of_decide_eq_true hxk ▸ List.mem_map_of_mem (f := (·.1.key)) hx)
      simp [hnone]
    · simp [hk, Ne.symm hk]

theorem Store.stamp_rest (c : Content) (offset : Nat) (xs : List (Item × Ref)) (s : Store) :
    (s.stamp c offset xs).items.length = s.items.length ∧ (s.stamp c offset xs).orders = s.orders ∧
      (s.stamp c offset xs).standbys = s.standbys ∧ (s.stamp c offset xs).freeItems = s.freeItems ∧
      (s.stamp c offset xs).freeElements = s.freeElements := by
  induction xs generalizing s with
  | nil => exact ⟨rfl, rfl, rfl, rfl, rfl⟩
  | cons x xs ih =>
    obtain ⟨h1, h2, h3, h4, h5⟩ := ih (s.modItem x.1.key (Item.given c offset x.2))
    exact ⟨h1.trans (List.length_map ..), h2, h3, h4, h5⟩

/-! ### The handler (R45, R46) -/

/-- The items of a run that a STAMP chooses. -/
def Store.chosen (s : Store) (run : List Nat) (stride : Nat) : List Item := everyNth stride 0 ((s.itemsOf run).filter Item.livePending)

/-- Whether a chosen item is given a copy. -/
def Content.givable (c : Content) (it : Item) : Bool := decide (it.elements.length < 32) && !(c.isGating && it.gating?.isSome)

/-- The counts that a STAMP answers. -/
def Content.stampCounts (c : Content) (run : List Nat) (chosen : List Item) : List Byte :=
  be 1 run.length ++ be 1 chosen.length ++ be 1 (chosen.filter c.givable).length ++
    be 1 (chosen.filter (fun it => !decide (it.elements.length < 32))).length ++
    be 1 (chosen.filter (fun it => decide (it.elements.length < 32) && (c.isGating && it.gating?.isSome))).length

section Handler
variable {d : Dev} {p : List Byte} {q : StampReq} {l : Fin 4} {c : Content} {above run below : List Nat}

theorem stamp_run (hn : (above ++ run ++ below).Nodup) (hlen : run.length ≤ max 1 q.count)
    (hmore : below ≠ [] → run.length = max 1 q.count)
    (hstart : (q.start = 0 ∧ above = []) ∨ (q.start ≠ 0 ∧ run.head? = some q.start)) :
    (if q.start = 0 then above ++ run ++ below
      else (above ++ run ++ below).dropWhile (fun k => decide (k ≠ q.start))).take (max 1 q.count) = run := by
  have hdrop : (if q.start = 0 then above ++ run ++ below
      else (above ++ run ++ below).dropWhile (fun k => decide (k ≠ q.start))) = run ++ below := by
    rcases hstart with ⟨h0, rfl⟩ | ⟨h0, hhead⟩
    · rw [if_pos h0, List.nil_append]
    · obtain ⟨rest, rfl⟩ := List.head?_eq_some_iff.1 hhead
      have hnot : ∀ a ∈ above, decide (a ≠ q.start) = true := by
        rintro a ha
        refine decide_eq_true ?_
        rintro rfl
        rw [List.append_assoc] at hn
        exact (List.nodup_append.1 hn).2.2 _ ha _ (by simp) rfl
      rw [if_neg h0, List.append_assoc, List.dropWhile_append_of_pos hnot]
      simp
  rw [hdrop]
  by_cases hb : below = []
  · rw [hb, List.append_nil, List.take_of_length_le hlen]
  · rw [← hmore hb, List.take_left]

theorem stampHandler_eq (hp : readAll readStamp p = some q) (hl : place? 4 q.lane = some l) (hq : q.elem.inRange = true)
    (hc : q.elem.content (.clip 0 0) = some c) (hg : c.isGating = true → min (q.elem.offset.getD 0) 1048575 = 0)
    (hplace : d.world.store.standsIn l q.start) (hcount : max 1 q.count ≤ 32)
    (hrun : (if q.start = 0 then d.world.store.orders.get l
      else (d.world.store.orders.get l).dropWhile (fun k => decide (k ≠ q.start))).take (max 1 q.count) = run)
    (hroom : ((d.world.store.chosen run (min 8 (max 1 q.stride))).filter c.givable).length ≤ d.world.store.freeElements.length) :
    let chosen := d.world.store.chosen run (min 8 (max 1 q.stride))
    let given := chosen.filter c.givable
    let stamped := given.zip ((d.world.store.freeElements.take given.length).map Ref.allocated)
    let w := d.world.setStore (Store.stamp { d.world.store with freeElements := d.world.store.freeElements.drop given.length } c
      (min (q.elem.offset.getD 0) 1048575) stamped)
    stampHandler d p = if given = [] then .ok (.same (c.stampCounts run chosen)) else
      .ok (.done ((d.withWorld w).notice l { Notice.between d.world w l with
        next := (stamped.filter (fun x => decide ((d.world.lane l).next = some x.1.key))).map (fun x => ElemChange.added ⟨x.1.ref, x.2⟩) })
        (fun _ => c.stampCounts run chosen)) := by
  intro chosen given stamped w
  have hgiven : (chosen.filter (fun it => decide (it.elements.length < 32))).filter
      (fun it => !(c.isGating && it.gating?.isSome)) = given := by
    rw [List.filter_filter]
    exact List.filter_congr fun it _ => Bool.and_comm ..
  have hgated : (chosen.filter (fun it => decide (it.elements.length < 32))).filter (fun it => c.isGating && it.gating?.isSome) =
      chosen.filter (fun it => decide (it.elements.length < 32) && (c.isGating && it.gating?.isSome)) := by
    rw [List.filter_filter]
    exact List.filter_congr fun it _ => Bool.and_comm ..
  have hfull : chosen.filter (fun it => decide (32 ≤ it.elements.length)) =
      chosen.filter (fun it => !decide (it.elements.length < 32)) :=
    List.filter_congr fun it _ => by rw [← decide_not]; exact decide_eq_decide.2 Nat.not_lt.symm
  have halloc : allocate d.world.store.freeElements given.length =
      some ((d.world.store.freeElements.take given.length).map Ref.allocated, d.world.store.freeElements.drop given.length) :=
    if_neg (Nat.not_lt.2 hroom)
  subst hrun
  rw [← hgiven] at halloc
  refine bind_four_of_ok (fields_eq hp) (numbered_eq hl) (want_eq hq) (need_of_some (ElemReq.create_eq hc)) (bind_four_of_ok
    (want_eq (gatingFits_eq hg)) (Dev.checkPlace_eq hplace) (want_eq (decide_eq_true hcount)) (need_of_some halloc) ?_)
  simp only [show everyNth _ 0 _ = chosen from rfl, show Config.maxElements = 32 from rfl, hgiven, hgated, hfull]
  rfl

end Handler

/-- Of pairs whose items have distinct keys, the one with an item's key is found. -/
theorem find?_of_nodup {xs : List (Item × Ref)} {x : Item × Ref} (hn : (xs.map (·.1.key)).Nodup) (hx : x ∈ xs) :
    xs.find? (fun y => decide (y.1.key = x.1.key)) = some x := by
  obtain ⟨y, hy⟩ := Option.isSome_iff_exists.1 (List.find?_isSome.2 ⟨x, hx, decide_eq_true rfl⟩ :
    (xs.find? (fun y => decide (y.1.key = x.1.key))).isSome)
  have hyk : y.1.key = x.1.key := by simpa using List.find?_some hy
  rw [hy, List.inj_on_of_nodup_map hn (List.mem_of_find?_eq_some hy) hx hyk]

section Stamped
variable {S : Store} {given : List Item} {c : Content} {offset : Nat}

/-- The items given a copy, with the records that the copies take. -/
def Store.stamped (S : Store) (given : List Item) : List (Item × Ref) :=
  given.zip ((S.freeElements.take given.length).map Ref.allocated)

/-- The store after a STAMP. -/
def Store.copied (S : Store) (c : Content) (offset : Nat) (given : List Item) : Store :=
  Store.stamp { S with freeElements := S.freeElements.drop given.length } c offset (S.stamped given)

theorem Store.stamped_keys (hroom : given.length ≤ S.freeElements.length) :
    (S.stamped given).map (·.1.key) = given.map (·.key) := by
  have hfst : (S.stamped given).map (·.1) = given := List.map_fst_zip (by simp [hroom])
  rw [show (S.stamped given).map (·.1.key) = ((S.stamped given).map (·.1)).map (·.key) from (List.map_map ..).symm, hfst]

theorem Store.mem_stamped {n : Nat} {it : Item} {ref : Ref} (hit : given[n]? = some it) (href : S.freeElements[n]? = some ref) :
    (it, ref.allocated) ∈ S.stamped given := by
  have hn : n < given.length := (List.getElem?_eq_some_iff.1 hit).1
  refine List.mem_of_getElem? (i := n) ?_
  rw [Store.stamped, List.getElem?_zip_eq_some]
  exact ⟨hit, by rw [List.getElem?_map, List.getElem?_take_of_lt hn, href, Option.map_some]⟩

variable {v w : World} {l : Fin 4} {cur : Option Nat} (hroom : given.length ≤ S.freeElements.length)
  (hed : v.Edited l cur (S.copied c offset given) w) (hkeys : (given.map (·.key)).Nodup)
include hroom hed hkeys

theorem Store.copied_item? (k : Nat) : (w.item? k).map Item.record = ((S.item? k).map (fun i =>
    ((S.stamped given).find? (fun x => decide (x.1.key = k))).elim i (fun x => i.given c offset x.2))).map Item.record := by
  refine (Store.item?_map_record w.store k).trans ?_
  rw [hed.records, ← Store.item?_map_record]
  exact congrArg _ (Store.item?_stamp c offset _ (Store.stamped_keys hroom ▸ hkeys) _ k)

/-- An item given a copy has it. -/
theorem Store.copied_copy {n : Nat} {it : Item} {ref : Ref} (hit : given[n]? = some it) (href : S.freeElements[n]? = some ref)
    (hfound : S.item? it.key = some it) : (w.item? it.key).map Item.record = some { it.record with
      elements := it.record.elements ++ [Element.create ref.allocated c offset], rev := it.rev + 1 } := by
  rw [Store.copied_item? hroom hed hkeys, hfound, find?_of_nodup (Store.stamped_keys hroom ▸ hkeys) (Store.mem_stamped hit href)]
  exact congrArg some (Item.given_record c offset ref.allocated it)

/-- Every other item is as it was. -/
theorem Store.copied_other {k : Nat} (hk : k ∉ given.map (·.key)) : (w.item? k).map Item.record = (S.item? k).map Item.record := by
  have hnone : (S.stamped given).find? (fun x => decide (x.1.key = k)) = none := by
    rw [List.find?_eq_none]
    intro x hx hxk
    refine hk (Store.stamped_keys hroom ▸ List.mem_map.2 ⟨x, hx, of_decide_eq_true hxk⟩)
  rw [Store.copied_item? hroom hed hkeys, hnone]
  exact congrArg (Option.map Item.record) Option.map_id'

end Stamped

/-- Where a STAMP may begin, by the run that it takes. -/
theorem Store.standsIn_of_run {S : Store} {q : StampReq} {l : Fin 4} {above run below : List Nat} (hok : S.Ok) (hplaced : S.Placed)
    (horder : S.orders.get l = above ++ run ++ below)
    (hstart : (q.start = 0 ∧ above = []) ∨ (q.start ≠ 0 ∧ run.head? = some q.start)) : S.standsIn l q.start := by
  rcases hstart with ⟨h0, -⟩ | ⟨-, hhead⟩
  · exact .inl h0
  · have hmem : q.start ∈ S.orders.get l := by
      rw [horder]
      exact List.mem_append_left _ (List.mem_append_right _ (List.mem_of_head? hhead))
    obtain ⟨x, hx, hxk, hxl, hxp⟩ := (hplaced.2.1 l q.start).1 hmem
    exact .inr ⟨x, hxk ▸ hok.item?_eq hx, hxl, hxp⟩

/-- The answer to a STAMP, and the world that it leaves. -/
theorem State.Asks.stamped {s : State} {tag : Byte} {p : List Byte} {rest : List Request} {c : Content} {l : Fin 4} {run : List Nat}
    {stride offset : Nat} (hs : s.Asks 0x1B#8 tag p rest)
    (heq : let chosen := s.begun.world.store.chosen run stride
      let given := chosen.filter c.givable
      let w := s.begun.world.setStore (s.begun.world.store.copied c offset given)
      stampHandler s.begun p = if given = [] then .ok (.same (c.stampCounts run chosen)) else
        .ok (.done ((s.begun.withWorld w).notice l { Notice.between s.begun.world w l with
          next := ((s.begun.world.store.stamped given).filter (fun x => decide ((s.begun.world.lane l).next = some x.1.key))).map
            (fun x => ElemChange.added ⟨x.1.ref, x.2⟩) }) (fun _ => c.stampCounts run chosen))) :
    let chosen := s.begun.world.store.chosen run stride
    let given := chosen.filter c.givable
    ∃ d : Dev, (exec .stamp s = .next (s.replied rest tag d.settle .ok (c.stampCounts run chosen)) ∨
      (given = [] ∧ d = s.begun ∧ exec .stamp s = .next (s.replied rest tag d .ok (c.stampCounts run chosen)))) ∧
      d.env = s.dev.env ∧
      s.begun.world.Edited l (s.dev.world.lane l).cursor (s.begun.world.store.copied c offset given) d.world := by
  intro chosen given
  by_cases hnone : given = []
  · refine ⟨s.begun, .inr ⟨hnone, rfl, hs.same (heq.trans (if_pos hnone))⟩, rfl, ?_⟩
    rw [hnone]
    exact World.Edited.refl s.begun.world l
  · exact ⟨_, .inl (hs.done (heq.trans (if_neg hnone))), rfl, s.begun.write_edited l _ _⟩

/-- Settles O20: each of the items given a copy is found with it, and the others as they were. -/
theorem stampGivesEachChosenItemACopy : Obligations.StampGivesEachChosenItemACopy := by
  intro s tag p rest q l c above run below S offset stride live chosen fits gated given hs hp hl hq hc hg hok hplaced horder hlen
    hcount hmore hstart hroom
  have hn : (above ++ run ++ below).Nodup := horder ▸ hplaced.1 l
  have hchosen : S.chosen run stride = chosen := everyNth_eq live (by omega) (by simp)
  have hrun := stamp_run hn hlen hmore hstart
  rw [← horder] at hrun
  have hsub : given.Sublist (S.itemsOf run) := by
    have hlive : chosen.Sublist live := hchosen ▸ everyNth_sublist _ _ _
    exact (List.filter_sublist.trans hlive).trans List.filter_sublist
  have hkeys : (given.map (·.key)).Nodup := ((hsub.map _).trans (Store.itemsOf_keys S run)).nodup
    (List.nodup_append.1 (List.nodup_append.1 hn).1).2.1
  have heq := hs.stamped (offset := offset) (stampHandler_eq (d := s.begun) hp hl hq hc hg
    (Store.standsIn_of_run hok hplaced horder hstart) hcount hrun
    (show ((S.chosen run stride).filter c.givable).length ≤ _ from hchosen ▸ hroom))
  dsimp only at heq
  rw [show s.begun.world.store.chosen run (min 8 (max 1 q.stride)) = chosen from hchosen] at heq
  obtain ⟨d, hexec, henv, hed⟩ := heq
  obtain ⟨hlength, horders, hstandbys, hfreeItems, hfreeElements⟩ :=
    Store.stamp_rest c offset (S.stamped given) { S with freeElements := S.freeElements.drop given.length }
  refine ⟨d, _, hexec, rfl, henv, hed.keeps, hed.kept, hed.cursor, ?_,
    fun n it ref hit href => Store.copied_copy hroom hed hkeys hit href
      (Store.mem_itemsOf.1 (hsub.subset (List.mem_of_getElem? hit))).2,
    fun k hk => Store.copied_other hroom hed hkeys hk,
    hed.freeElements.trans hfreeElements, hed.freeItems.trans hfreeItems, hed.orders.trans horders,
    hed.standbys.trans hstandbys⟩
  rw [hed.records, Store.records, List.length_map, Store.records, List.length_map]
  exact hlength

end Sys2Proof.Machine
end

section
/-! A port's receive queue and its probes, and the assignment of a station (R164 to R166, R169, R172, R180). -/
namespace Sys2Proof.Machine

-- One proof is checked at a time: the tests above leave little memory for proofs side by side.
set_option Elab.async false

/-! ### What a cue link brings (R161, R166, R172) -/

section Receive
variable {e : Env} {w : World} {p : Fin 8} {bytes : List Byte} {kind : Byte} {fields : List Byte}

theorem World.receive_discarded (h : checkFrame bytes = none) : World.receive e w p bytes = w := by
  rw [World.receive, h]

theorem World.receive_linkFrame (hlen : fields.length < 40) : World.receive e w p (linkFrame kind fields) =
    if (w.ports.get p).state = .down then w
    else if (w.ports.get p).received.length < 4 then
      w.setPort p { w.ports.get p with received := (w.ports.get p).received ++ [{ kind, fields }] }
    else World.latchOverrun e w p := by
  rw [World.receive, show checkFrame (linkFrame kind fields) = some (kind, fields) from
    checkFrame_linkFrame (before := []) (by simp) kind hlen]
  rfl

end Receive

theorem exec_cueFrameReceived {s : State} {p : Fin 8} {bytes : List Byte} {w : World}
    (h : World.receive s.dev.env s.begun.world p bytes = w) :
    exec (.cueFrameReceived p bytes) s = .next (s.quiet.withWorld w).drivePulse :=
  congrArg (fun w => Host.Outcome.next (s.quiet.withWorld w).drivePulse) h

/-- Settles O35, by the branches of what a port does with a frame. -/
theorem cueFramesJoinTheReceiveQueue : Obligations.CueFramesJoinTheReceiveQueue := by
  intro s i kind fields w r frame
  refine ⟨fun bytes h => exec_cueFrameReceived (World.receive_discarded h), fun hlen hs => ?_, fun hlen hs hroom => ?_,
    fun hlen hs hfull => ⟨_, cueFrameReceived_overrun hlen hs hfull, ?_⟩⟩
  · exact exec_cueFrameReceived ((World.receive_linkFrame hlen).trans (if_pos hs))
  · exact exec_cueFrameReceived ((World.receive_linkFrame hlen).trans ((if_neg hs).trans (if_pos hroom)))
  · rw [State.drivePulse_ctl, State.drivePulse_env, State.drivePulse_ports, State.drivePulse_store, State.drivePulse_monitor]
    have hnotice : World.latchOverrun s.dev.env s.begun.world i = _ := World.notice_eq ..
    rw [hnotice]
    refine ⟨rfl, rfl, rfl, rfl, ?_⟩
    show ((w.monitor.rxOverrun.set i (w.monitor.rxOverrun.get i).latch).get i).latched = true ∧
      ((w.monitor.rxOverrun.set i (w.monitor.rxOverrun.get i).latch).get i).count = _
    rw [Tbl.get_set_self]
    exact ⟨rfl, rfl⟩

/-! ### The seq of a message, and a PROBE (R164, R165, R169) -/

/-- The seq given is the first from the one that it starts at which no outstanding record holds, or the last one tried. -/
theorem Port.freeSeq_first (p : Port) (n : Nat) (seq : BitVec 8) : ∃ m ≤ n, p.freeSeq n seq = seq + BitVec.ofNat 8 m ∧
    ∀ j < m, p.holdsSeq (seq + BitVec.ofNat 8 j) = true := by
  induction n generalizing seq with
  | zero => exact ⟨0, le_rfl, (BitVec.add_zero seq).symm, fun j hj => absurd hj (Nat.not_lt_zero j)⟩
  | succ n ih =>
    have hnext : ∀ j : Nat, seq + 1 + BitVec.ofNat 8 j = seq + BitVec.ofNat 8 (j + 1) := fun j => by
      rw [BitVec.ofNat_add, add_assoc, add_comm (BitVec.ofNat 8 j)]
      rfl
    by_cases hheld : p.holdsSeq seq = true
    · obtain ⟨m, hm, heq, hall⟩ := ih (seq + 1)
      refine ⟨m + 1, Nat.succ_le_succ hm, (if_pos hheld).trans (heq.trans (hnext m)), fun j hj => ?_⟩
      induction j with
      | zero => exact (BitVec.add_zero seq).symm ▸ hheld
      | succ j => exact hnext j ▸ hall j (Nat.lt_of_succ_lt_succ hj)
    · exact ⟨0, Nat.zero_le _, (if_neg hheld).trans (BitVec.add_zero seq).symm, fun j hj => absurd hj (Nat.not_lt_zero j)⟩

/-- Of four seqs one after another a window with room leaves one free. -/
theorem Port.exists_free (p : Port) (hw : p.window.length < 4) (seq : BitVec 8) :
    ¬∀ j < 4, p.holdsSeq (seq + BitVec.ofNat 8 j) = true := by
  intro hall
  have hnodup : (((List.range 4).map (BitVec.ofNat 8)).map (seq + ·)).Nodup :=
    List.Nodup.map (add_right_injective seq) (by decide)
  have hsub : ((List.range 4).map (BitVec.ofNat 8)).map (seq + ·) ⊆ p.window.map (·.seq) := by
    intro x hx
    obtain ⟨y, hy, rfl⟩ := List.mem_map.1 hx
    obtain ⟨j, hj, rfl⟩ := List.mem_map.1 hy
    simpa [Port.holdsSeq] using hall j (List.mem_range.1 hj)
  have hle := (List.subperm_of_subset hnodup hsub).length_le
  rw [List.length_map, List.length_map, List.length_map] at hle
  exact Nat.not_lt.2 hle hw

section Run
variable {e : Env} {p : Fin 8} {w : World}

theorem World.arbiterRun_of_none (h : (w.ports.get p).pick (e.cfg.ports.get p) = none) (n : Nat) :
    World.arbiterRun e p n w = w := by
  induction n with
  | zero => rfl
  | succ n =>
    unfold World.arbiterRun
    dsimp only
    rw [h]
    exact ite_self _

/-- One round of the arbiter, where the window has room. -/
theorem World.arbiterRun_of_some {m : CueMsg} {o : Option Owner} {q : Port} (n : Nat) (hw : (w.ports.get p).window.length < 4)
    (h : (w.ports.get p).pick (e.cfg.ports.get p) = some (m, o, q)) : World.arbiterRun e p (n + 1) w =
      World.arbiterRun e p n ((w.setPort p { q with
        window := q.window ++ [{ seq := q.freeSeq 4 q.nextSeq, msg := m, owner := o, sent := e.now }]
        nextSeq := q.freeSeq 4 q.nextSeq + 1 }).sendCue p (m.frame (q.freeSeq 4 q.nextSeq))) := by
  refine (if_neg (Nat.not_le.2 hw)).trans ?_
  rw [h]
  rfl

/-- The arbiter of a FAULTED port with a PROBE in its priority slot. -/
theorem World.arbiter_probe {r : Port} (hs : r.state = .faulted) (hpr : r.priority = [.probe]) (hw : r.window.length < 4) :
    World.arbiter e (w.setPort p r) p = (w.setPort p { r with
        priority := [], nextSeq := r.freeSeq 4 r.nextSeq + 1
        window := r.window ++ [{ seq := r.freeSeq 4 r.nextSeq, msg := .probe, owner := none, sent := e.now }] }).sendCue p
        (linkFrame 0x07#8 [r.freeSeq 4 r.nextSeq]) := by
  have hget : (w.setPort p r).ports.get p = r := Tbl.get_set_self ..
  have hpick : ((w.setPort p r).ports.get p).pick (e.cfg.ports.get p) = some (.probe, none, { r with priority := [] }) := by
    rw [hget, Port.pick, hs, hpr]
  refine (World.arbiterRun_of_some 3 (by rw [hget]; exact hw) hpick).trans ((World.arbiterRun_of_none ?_ 3).trans ?_)
  · show Port.pick (((w.ports.set p r).set p _).get p) _ = none
    rw [Tbl.get_set_self, Port.pick, hs]
  · exact congrArg (fun ports => World.sendCue { w with ports } p _) (Tbl.set_set ..)

theorem World.probeTest_idle (ht : (w.ports.get p).probeTick = none) : World.probeTest e w p = w := by
  rw [World.probeTest, ht]

/-- A PROBE sent when the interval has passed (R169). -/
theorem World.probeTest_due {r : Port} {interval : Nat} {start : Fc} (hr : w.ports.get p = r) (ht : r.probeTick = some interval)
    (hs : r.state = .faulted) (hstart : r.probeStart = some start) :
    World.probeTest e w p = if (interval : Int) ≤ fcDist start e.now then
      World.arbiter e (w.setPort p { r with
        probeTick := none, probeStart := some e.now
        priority := if r.priority.contains .probe then r.priority else r.priority ++ [.probe] }) p
      else w.setPort p { r with probeTick := none } := by
  unfold World.probeTest
  rw [hr, ht]
  dsimp only
  rw [hs, hstart]

end Run

theorem exec_probeTimer {s : State} {p : Fin 8} {w : World} (h : World.probeTest s.dev.env s.begun.world p = w) :
    exec (.probeTimer p) s = .next (s.quiet.withWorld w).drivePulse :=
  congrArg (fun w => Host.Outcome.next (s.quiet.withWorld w).drivePulse) h

/-- Settles O39: the probe test, the arbiter's one round for the PROBE, and the seq that it gives. -/
theorem probeTimerSendsAProbe : Obligations.ProbeTimerSendsAProbe := by
  intro s i interval start w r
  refine ⟨fun ht => exec_probeTimer (World.probeTest_idle ht), fun ht hs hstart hd => exec_probeTimer ?_, fun ht hs hstart hpr hroom hd => ?_⟩
  · exact (World.probeTest_due rfl ht hs hstart).trans (if_neg (Int.not_le.2 hd))
  · have hslot : (if r.priority.contains .probe then r.priority else r.priority ++ [.probe]) = [CueMsg.probe] := by
      rw [hpr]
      rfl
    have hprobe := ((World.probeTest_due rfl ht hs hstart).trans (if_pos hd)).trans
      (World.arbiter_probe (e := s.dev.env) (w := s.begun.world) (p := i) hs hslot hroom)
    obtain ⟨n, hn, hseq, hheld⟩ := r.freeSeq_first 4 r.nextSeq
    have hfree : r.freeSeq 4 r.nextSeq ∉ r.window.map (·.seq) := by
      simpa [Port.holdsSeq] using r.freeSeq_free hroom r.nextSeq
    refine ⟨_, r.freeSeq 4 r.nextSeq, exec_probeTimer hprobe, fun x hx hxs => hfree (hxs ▸ List.mem_map_of_mem hx),
      ⟨n, lt_of_le_of_ne hn ?_, hseq, fun j hj => by simpa [Port.holdsSeq] using hheld j hj⟩, ?_⟩
    · rintro rfl
      exact r.exists_free hroom r.nextSeq hheld
    · rw [State.drivePulse_env, State.drivePulse_ports, State.drivePulse_out, State.drivePulse_store]
      refine ⟨rfl, ?_, rfl, rfl⟩
      rw [← hpr]
      rfl

/-! ### The assignment of a station (R180) -/

theorem World.sendStationIf_eq (w : World) (b : Bool) (st : Fin 6) (kind : Byte) (fields : List Byte) :
    (if b then w.sendStation st kind fields else w) = { w with out := { w.out with
      station := w.out.station ++ (if b then [(st, linkFrame kind fields)] else []) } } := by
  induction b
  · exact congrArg (fun station => { w with out := { w.out with station } }) (List.append_nil _).symm
  · rfl

theorem World.assignStation_eq {w : World} (hout : w.out.station = []) (st : Fin 6) (lane : Option (Fin 4)) :
    let r := w.stations.get st
    w.assignStation st lane = { w with
      stations := w.stations.set st { r with lane, standby := none, waiting := [], go := none }
      out := { w.out with station :=
        (if r.present = true ∧ r.standby ≠ none then [(st, linkFrame 0x13#8 [])] else []) ++
        (if r.present = true ∧ r.go ≠ none then [(st, linkFrame 0x15#8 [])] else []) } } := by
  intro r
  have hif : ∀ {α : Type} (o : Option α) (xs : List (Fin 6 × List Byte)),
      (if r.present = true ∧ o ≠ none then xs else []) = if r.present && o.isSome then xs else [] := by
    intro α o xs
    refine if_congr ?_ rfl rfl
    rw [Bool.and_eq_true, Option.isSome_iff_ne_none]
  rw [hif, hif]
  unfold World.assignStation
  dsimp only
  rw [World.sendClearStandby, World.sendStationIf_eq, World.sendClearGo, World.sendStationIf_eq]
  show ({ w with stations := _, out := { w.out with station := (w.out.station ++ _) ++ _ } } : World) = _
  rw [hout, List.nil_append]
  rfl

theorem stationHandler_eq {d : Dev} {p : List Byte} {n : Nat} {x : Machine.Field Nat} {st : Fin 6} {lane : Option (Fin 4)}
    (hp : readAll readStation p = some (n, x)) (hn : place? 6 n = some st)
    (hx : (x = .absent ∧ lane = (d.world.stations.get st).lane) ∨ (x = .word ∧ lane = none) ∨
      ∃ k, x = .given k ∧ place? 4 k = lane ∧ lane ≠ none) : stationHandler d p =
      if lane = (d.world.stations.get st).lane then .ok (.same (d.stationBytes st))
      else .ok (.done (d.withWorld (d.world.assignStation st lane)) (fun d => d.stationBytes st)) := by
  refine (bind_of_ok (fields_eq hp)).trans ((bind_of_ok (numbered_eq hn)).trans ?_)
  rcases hx with ⟨rfl, rfl⟩ | ⟨rfl, rfl⟩ | ⟨k, rfl, hk, hsome⟩
  · exact bind_of_ok (a := (d.world.stations.get st).lane) rfl
  · exact bind_of_ok (a := none) rfl
  · obtain ⟨l, rfl⟩ := Option.ne_none_iff_exists'.1 hsome
    exact (bind_of_ok (numbered_eq hk)).trans (bind_of_ok (a := some l) rfl)

/-- Settles O40, by the handler and the frames that it sends. -/
theorem stationAssignsAndEmptiesItsSlots : Obligations.StationAssignsAndEmptiesItsSlots := by
  intro s tag p rest n x st lane w r hs hp hn hx
  have heq := stationHandler_eq (d := s.begun) hp hn hx
  refine ⟨fun hl => ?_, fun hl => ?_⟩
  · exact hs.same (heq.trans (if_pos hl))
  · have hdone := hs.done (heq.trans (if_neg hl))
    exact ⟨_, hdone, rfl, World.assignStation_eq (w := s.begun.world) rfl st lane⟩

end Sys2Proof.Machine
end

section
/-! A station's presence: what is heard of it, its second boundaries and its third missed one (R178, R179, R183). -/
namespace Sys2Proof.Machine

-- One proof is checked at a time: the tests above leave little memory for proofs side by side.
set_option Elab.async false

/-! ### The second boundary (R178, R183) -/

/-- The cue in a standby slot with the countdown of its current distance. -/
def Station.shown (e : Env) (r : Station) : Option StandbyCue :=
  r.standby.map (fun c => { c with countdown := e.ref.rate.countdown (c.req.current e) })

/-- The COUNT frame of a second boundary. -/
def Station.countFrames (e : Env) (r : Station) : List (List Byte) :=
  (r.shown e).elim [] (fun c => [linkFrame 0x12#8 (be 3 c.countdown)])

/-- A station as a second boundary leaves it. -/
def Station.counted (e : Env) (r : Station) : Station := Station.boundary { r with standby := r.shown e }

/-- One station's second boundary. -/
def World.count (e : Env) (w : World) (st : Fin 6) : World := { w with
  stations := w.stations.set st ((w.stations.get st).counted e)
  out := { w.out with station := w.out.station ++ ((w.stations.get st).countFrames e).map (fun b => (st, b)) } }

theorem World.modStation_modStation (w : World) (st : Fin 6) (f g : Station → Station) :
    (w.modStation st f).modStation st g = w.setStation st (g (f (w.stations.get st))) := by
  show World.setStation _ st (g ((w.stations.set st (f (w.stations.get st))).get st)) = _
  rw [Tbl.get_set_self]
  exact congrArg (fun stations => { w with stations }) (Tbl.set_set ..)

theorem World.stationBoundary_eq (e : Env) (w : World) : World.stationBoundary e w = (places 6).foldl (World.count e) w := by
  unfold World.stationBoundary
  refine congrArg (fun f => (places 6).foldl f w) (funext fun w => funext fun st => ?_)
  dsimp only
  unfold World.count Station.counted Station.countFrames Station.shown
  cases h : (w.stations.get st).standby with
  | none =>
    have hr : ({ w.stations.get st with standby := none } : Station) = w.stations.get st := by rw [← h]
    rw [Option.map_none, hr]
    exact congrArg (fun station => { w with
      stations := w.stations.set st (w.stations.get st).boundary, out := { w.out with station } }) (List.append_nil _).symm
  | some c =>
    exact congrArg (fun v => World.sendCount v st (e.ref.rate.countdown (c.req.current e)))
      (World.modStation_modStation w st (fun s => { s with standby := some _ }) Station.boundary)

/-- Second boundaries of several stations: each is counted, and sent what is shown. -/
theorem World.foldl_count (e : Env) (sts : List (Fin 6)) (hn : sts.Nodup) (w : World) : ∃ stations,
    sts.foldl (World.count e) w = { w with
      stations
      out := { w.out with
        station := w.out.station ++ sts.flatMap (fun st => ((w.stations.get st).countFrames e).map (fun b => (st, b))) } } ∧
    ∀ st, stations.get st = if st ∈ sts then (w.stations.get st).counted e else w.stations.get st := by
  induction sts generalizing w with
  | nil => exact ⟨w.stations, by simp, fun st => by simp⟩
  | cons a sts ih =>
    obtain ⟨ha, hn⟩ := List.nodup_cons.1 hn
    obtain ⟨stations, heq, hget⟩ := ih hn (World.count e w a)
    have hother : ∀ st ∈ sts, (World.count e w a).stations.get st = w.stations.get st := fun st hst =>
      Tbl.get_set_ne _ _ fun h => ha (h ▸ hst)
    refine ⟨stations, ?_, fun st => ?_⟩
    · rw [List.foldl_cons, heq, List.flatMap_congr fun st hst => by rw [hother st hst]]
      simp [World.count]
    · rw [hget]
      by_cases hst : st ∈ sts
      · rw [if_pos hst, if_pos (List.mem_cons_of_mem a hst), hother st hst]
      · rw [if_neg hst]
        by_cases has : a = st
        · subst has
          rw [if_pos List.mem_cons_self]
          exact Tbl.get_set_self ..
        · rw [if_neg (by simp [hst, Ne.symm has])]
          exact Tbl.get_set_ne _ _ has

theorem World.stationBoundary_spec (e : Env) (w : World) : ∃ stations,
    World.stationBoundary e w = { w with
      stations
      out := { w.out with
        station := w.out.station ++ (places 6).flatMap (fun st => ((w.stations.get st).countFrames e).map (fun b => (st, b))) } } ∧
    ∀ st, stations.get st = (w.stations.get st).counted e := by
  rw [World.stationBoundary_eq]
  obtain ⟨stations, heq, hget⟩ := World.foldl_count e (places 6) (List.nodup_finRange 6) w
  exact ⟨stations, heq, fun st => (hget st).trans (if_pos (List.mem_finRange st))⟩

/-- What of a list, put together under keys that differ, stands under one of them, with the key. -/
theorem filter_flatMap_pair {α β : Type} [DecidableEq α] (g : α → List β) {xs : List α} (hn : xs.Nodup) {a : α} (ha : a ∈ xs) :
    (xs.flatMap (fun x => (g x).map (fun b => (x, b)))).filter (fun y => decide (y.1 = a)) = (g a).map (fun b => (a, b)) := by
  have hkey := (filter_flatMap_key g hn a).trans (if_pos ha)
  rw [← hkey, List.map_map]
  exact (List.map_id _).symm.trans (List.map_congr_left fun y hy => Prod.ext (of_decide_eq_true (List.mem_filter.1 hy).2) rfl)

/-! ### What is heard, and the third missed boundary (R178, R179) -/

theorem World.hear_eq {w : World} (hout : w.out.station = []) (st : Fin 6) : w.hear st = { w with
    stations := w.stations.set st { w.stations.get st with heard := true, missed := 0, present := true }
    out := { w.out with station := if (w.stations.get st).present then [] else
      [(st, linkFrame 0x13#8 []), (st, linkFrame 0x15#8 []),
        (st, linkFrame (if (w.stations.get st).callTo then 0x16#8 else 0x17#8) [])] } } := by
  unfold World.hear
  dsimp only
  split
  · rw [World.modStation, ← hout]
    rfl
  · show ({ w with stations := _, out := { w.out with station := ((w.out.station ++ _) ++ _) ++ _ } } : World) = _
    rw [hout]
    rfl

theorem World.takeThirdMiss_eq (w : World) (st : Fin 6) (r : Station) (h : (w.stations.get st).thirdMiss = true)
    (hr : r = if (w.stations.get st).present then
        if (w.stations.get st).heard then { w.stations.get st with thirdMiss := false, heard := false }
        else Station.lose { w.stations.get st with thirdMiss := false }
      else { w.stations.get st with thirdMiss := false }) : w.takeThirdMiss st = w.setStation st r := by
  subst hr
  refine congrArg (w.setStation st) ?_
  generalize w.stations.get st = r at h
  dsimp only
  rw [h]
  cases r.present <;> rfl

section Events
variable {s : State} {st : Fin 6} {w : World}

theorem exec_alive (h : s.begun.world.hear st = w) :
    exec (.alive st) s = .next (State.drivePulse { s with dev := Dev.settle { s.begun with world := w } }) := by
  subst h
  rfl

theorem exec_stationFrameDiscard {bytes : List Byte} (hb : (checkFrame bytes).isSome = true) (h : s.begun.world.hear st = w) :
    exec (.stationFrameDiscard st bytes) s = .next (State.drivePulse { s with dev := Dev.settle { s.begun with world := w } }) := by
  subst h
  obtain ⟨x, hx⟩ := Option.isSome_iff_exists.1 hb
  have hwork : State.stationFrame st bytes s.quiet = s.quiet.event (fun _ w => w.hear st) := by
    rw [State.stationFrame, hx]
  exact congrArg (fun t => Host.Outcome.next (State.drivePulse t)) hwork

theorem exec_stationAbsent (ht : (s.begun.world.stations.get st).thirdMiss = true) (h : s.begun.world.takeThirdMiss st = w) :
    exec (.stationAbsent st) s = .next (State.drivePulse { s with dev := Dev.settle { s.begun with world := w } }) := by
  subst h
  have hwork : State.absentTest st s.quiet = s.quiet.event (fun _ w => w.takeThirdMiss st) := if_pos ht
  exact congrArg (fun t => Host.Outcome.next (State.drivePulse t)) hwork

end Events

/-- Settles O42: a station at its second boundaries, and what the three rows make of it. -/
theorem presenceFollowsWhatIsHeard : Obligations.PresenceFollowsWhatIsHeard := by
  refine ⟨fun e w st => ?boundary, fun s st => ?rows⟩
  case boundary =>
    intro r w' r' sent shown
    obtain ⟨stations, heq, hget⟩ := World.stationBoundary_spec e w
    have hr : r' = Station.boundary { r with standby := shown } :=
      (congrArg (fun v => v.stations.get st) heq).trans (hget st)
    have hsent : sent = (r.countFrames e).map (fun b => (st, b)) := by
      have hdrop : w'.out.station.drop w.out.station.length =
          (places 6).flatMap (fun st => ((w.stations.get st).countFrames e).map (fun b => (st, b))) :=
        (congrArg (fun v => v.out.station.drop w.out.station.length) heq).trans (List.drop_left ..)
      unfold sent
      rw [hdrop]
      exact filter_flatMap_pair _ (List.nodup_finRange 6) (List.mem_finRange st)
    refine ⟨by decide, by decide, fun hp => ?_, fun hp hh => ?_, fun hp hh hm => ?_, fun hp hh hm => ?_, ?_,
      (congrArg World.store heq :), (congrArg World.lanes heq :), (congrArg World.ports heq :), (congrArg World.map heq :),
      (congrArg World.monitor heq :)⟩
    · rw [hr, Station.boundary, hp]
      rfl
    · rw [hr, Station.boundary, hp, hh]
      rfl
    · rw [hr, Station.boundary, hp, hh]
      exact if_pos hm
    · rw [hr, Station.boundary, hp, hh]
      exact if_neg (Nat.not_lt.2 hm)
    · rw [hsent]
      show List.map _ (shown.elim [] _) = _
      induction shown <;> rfl
  case rows =>
    intro w r ends heard
    have hhear : w.hear st = heard := World.hear_eq rfl st
    refine ⟨exec_alive hhear, fun bytes hb => exec_stationFrameDiscard hb hhear, fun bytes hb => ?_, fun ht => ?_,
      fun ht hp hh => exec_stationAbsent ht (w.takeThirdMiss_eq st _ ht ?_),
      fun ht hp hh => exec_stationAbsent ht (w.takeThirdMiss_eq st _ ht ?_),
      fun ht hp => exec_stationAbsent ht (w.takeThirdMiss_eq st _ ht ?_)⟩
    · have hwork : State.stationFrame st bytes s.quiet = s.quiet := by rw [State.stationFrame, hb]
      exact congrArg (fun t => Host.Outcome.next (State.drivePulse t)) hwork
    · have hwork : State.absentTest st s.quiet = s.quiet := if_neg (Bool.not_eq_true _ ▸ ht)
      exact congrArg (fun t => Host.Outcome.next (State.drivePulse t)) hwork
    · exact ((if_pos hp).trans (if_neg (Bool.not_eq_true _ ▸ hh))).symm
    · exact ((if_pos hp).trans (if_pos hh)).symm
    · exact (if_neg (Bool.not_eq_true _ ▸ hp)).symm

end Sys2Proof.Machine
end

section
/-! MAP (R155, R156): what the write of an entry leaves, and which clips of the lanes it reaches. -/
namespace Sys2Proof.Machine

-- One proof is checked at a time: the tests above leave little memory for proofs side by side.
set_option Elab.async false

/-! ### The write of an entry -/

section Write
variable (d : Dev) (i : Fin 64) (m : MapEntry)

/-- What the blocks' working keeps, the write of an entry keeps once the entry stands. -/
theorem Working.writeEntry {P : World → Prop} (h : Working P) (hset : P (d.world.setEntry i m)) : P (d.writeEntry i m).world := by
  unfold Dev.writeEntry
  dsimp only [Dev.withWorld]
  split
  · exact Working.foldl _ (fun _ l hv => h.remapLane _ i l hv) _ hset
  · exact hset

theorem Dev.writeEntry_derives : (d.world.setEntry i m).Derives (fun _ => False) (d.writeEntry i m).world :=
  (deriving_derives _ _).toWorking.writeEntry d i m (.refl _ _)

theorem Dev.writeEntry_service : ((d.writeEntry i m).world.map.get i).service = m.service :=
  ((d.writeEntry_derives i m).services i).trans (congrArg MapEntry.service (Tbl.get_set_self ..))

/-- What the write of an entry keeps of the part (R155). -/
theorem Dev.writeEntry_keeps {w' : World} (h : w' = (d.writeEntry i m).world) :
    w'.store.records = d.world.store.records ∧ w'.store.orders = d.world.store.orders ∧
    (∀ l, (w'.lane l).standing = (d.world.lane l).standing) ∧
    (∀ j, j ≠ i → (w'.map.get j).service = (d.world.map.get j).service) ∧
    (∀ x, (w'.ports.get x).standing = (d.world.ports.get x).standing) ∧
    (∀ st, (w'.stations.get st).standing = (d.world.stations.get st).standing) ∧ w'.monitor = d.world.monitor := by
  subst h
  have hder := d.writeEntry_derives i m
  exact ⟨hder.records, hder.orders, fun l => hder.lanes l id,
    fun j hj => (hder.services j).trans (congrArg MapEntry.service (Tbl.get_set_ne _ _ (Ne.symm hj))), hder.ports, hder.stations,
    hder.monitor⟩

/-- An entry's invariant, through the blocks' working. -/
theorem working_entryOk : Working (fun w => (w.map.get i).Ok) where
  lane _ _ h _ := h
  elems _ h _ _ := h
  port _ _ h _ _ := h
  station _ _ h _ := h
  entry {w} j m h _ hok := by
    show ((w.map.set j m).get i).Ok
    rw [Tbl.get_set]
    split
    · next hj => exact hok (hj ▸ h)
    · exact h
  rolls _ h := h
  due _ _ h := h
  loads _ h := h
  out _ h _ := h

theorem Dev.writeEntry_free (hm : m.Ok) (hcls : m.cls = .graphics) : ((d.writeEntry i m).world.map.get i).claim = none ∧
    ((d.writeEntry i m).world.map.get i).waiters = [] := by
  obtain ⟨-, hwaiters, -, hclaim, -⟩ := (working_entryOk i).writeEntry d i m
    (show ((d.world.map.set i m).get i).Ok from (Tbl.get_set_self ..).symm ▸ hm)
  have hnone := hclaim ((congrArg MapEntry.cls (d.writeEntry_service i m)).trans hcls)
  exact ⟨hnone, hwaiters hnone⟩

end Write

/-! ### The loaded clips of the lanes (R156) -/

/-- Whether a clip of a lane's NEXT or ON_AIR item is loaded from an entry and not rolled. -/
def World.anyLoaded (w : World) (i : Fin 64) : Prop :=
  ∃ l k it el, k ∈ (w.lane l).heldKeys ∧ w.item? k = some it ∧ el ∈ it.elements ∧ el.isLoadedUnrolled i = true

theorem World.remapLane_idle {e : Env} {i : Fin 64} {w : World} (h : ¬w.anyLoaded i) (l : Fin 4) : World.remapLane e i w l = w := by
  have hnil : ∀ {o : Option Nat} {it : Item}, o.bind w.item? = some it → o.toList ⊆ (w.lane l).heldKeys →
      it.elements.filter (Element.isLoadedUnrolled i) = [] := by
    intro o it ho hsub
    obtain ⟨k, rfl, hk⟩ := Option.bind_eq_some_iff.1 ho
    exact List.filter_eq_nil_iff.2 fun el hel hload => h ⟨l, k, it, el, hsub (by simp), hk, hel, hload⟩
  unfold World.remapLane
  cases hn : w.nextItem? l with
  | none =>
    cases ho : w.onAirItem? l with
    | none => rfl
    | some it => exact congrArg (fun els => (els.map it.refOf).foldl (World.remapOnAir e l) w) (hnil ho (List.subset_append_right ..))
  | some x =>
    dsimp only
    rw [hnil hn (List.subset_append_left ..)]
    cases ho : w.onAirItem? l with
    | none => rfl
    | some it => exact congrArg (fun els => (els.map it.refOf).foldl (World.remapOnAir e l) w) (hnil ho (List.subset_append_right ..))

theorem World.foldl_remapLane_idle {e : Env} {i : Fin 64} {w : World} (h : ¬w.anyLoaded i) (ls : List (Fin 4)) :
    ls.foldl (World.remapLane e i) w = w := by
  induction ls with
  | nil => rfl
  | cons l ls ih => rw [List.foldl_cons, World.remapLane_idle h, ih]

theorem MapEntry.sameService_iff {a b : MapEntry} : a.sameService b = true ↔
    a.valid = b.valid ∧ a.cls = b.cls ∧ a.main = b.main ∧ a.backup = b.backup ∧ a.active = b.active := by
  simp [MapEntry.sameService, and_assoc]

/-- The lanes hear of a changed GRAPHICS entry, and nothing follows where none has a clip loaded from it. -/
theorem Dev.writeEntry_wrote (d : Dev) (i : Fin 64) (m : MapEntry) {w' : World} (h : w' = (d.writeEntry i m).world) :
    let old := d.world.map.get i
    let remaps := old.valid = true ∧ old.cls = .graphics ∧
      ¬(old.valid = m.valid ∧ old.cls = m.cls ∧ old.main = m.main ∧ old.backup = m.backup ∧ old.active = m.active)
    (remaps → w' = (places 4).foldl (World.remapLane d.env i) (d.world.setEntry i m)) ∧
    (¬remaps ∨ ¬d.world.anyLoaded i → w' = d.world.setEntry i m) := by
  subst h
  intro old remaps
  have hiff : (old.valid && decide (old.cls = .graphics) && !old.sameService m) = true ↔ remaps := by
    rw [Bool.and_eq_true, Bool.and_eq_true, decide_eq_true_iff, and_assoc, Bool.not_eq_true', ← Bool.not_eq_true,
      MapEntry.sameService_iff]
  refine ⟨fun hr => if_pos (hiff.2 hr), fun hn => ?_⟩
  by_cases hr : remaps
  · exact (if_pos (hiff.2 hr)).trans (World.foldl_remapLane_idle (w := d.world.setEntry i m) (hn.resolve_left (not_not_intro hr)) _)
  · exact if_neg (mt hiff.1 hr)

/-! ### The handler -/

theorem bind_of_error {ε α β : Type} {x : Except ε α} {st : ε} {f : α → Except ε β} (h : x = .error st) : x >>= f = .error st := by
  rw [h]
  rfl

theorem want_refused {b : Bool} {st : Status} (h : b = false) : want b st = .error st := by
  rw [h]
  rfl

theorem MapEntry.held_iff {m : MapEntry} :
    (!(decide (m.cls = .playout) && m.claim.isSome)) = false ↔ m.cls = .playout ∧ m.claim ≠ none := by
  simp [Option.isSome_iff_ne_none]

/-- An entry that shares no side with a VALID one, where either is PLAYOUT, clashes with no other entry (R155). -/
theorem all_apart {m : MapEntry} {map : Tbl 64 MapEntry} {i : Fin 64}
    (h : ∀ j, j ≠ i → (map.get j).valid = true → (m.cls = .playout ∨ (map.get j).cls = .playout) →
      ∀ t ∈ m.main :: m.backup.toList, t ∉ (map.get j).main :: (map.get j).backup.toList) :
    (places 64).all (fun j => decide (j = i) || !(m.clashes (map.get j))) = true := by
  rw [List.all_eq_true]
  intro j _
  by_cases hj : j = i
  · rw [decide_eq_true hj, Bool.true_or]
  · rw [Bool.or_eq_true, Bool.not_eq_true', ← Bool.not_eq_true, MapEntry.clashes, Bool.and_eq_true, Bool.and_eq_true, Bool.and_eq_true,
      List.any_eq_true]
    right
    rintro ⟨⟨⟨-, hv⟩, hc⟩, t, ht, hin⟩
    exact h j hj hv (by simpa using hc) t ht (by simpa [MapEntry.sides] using hin)

section Handler
variable {d : Dev} {p : List Byte} {n : Nat} {form : MapForm} {i : Fin 64} (hp : readAll readMap p = some (n, form))
  (hn : place? 64 n = some i)
include hp hn

theorem mapHandler_read (hf : form = .read) : mapHandler d p = .ok (.same (d.entryBytes i)) := by
  subst hf
  exact (bind_of_ok (fields_eq hp)).trans (bind_of_ok (numbered_eq hn))

theorem mapHandler_invalid (hf : form = .invalid) :
    ((!(decide ((d.world.map.get i).cls = .playout) && (d.world.map.get i).claim.isSome)) = false → mapHandler d p = .error .busy) ∧
    ((!(decide ((d.world.map.get i).cls = .playout) && (d.world.map.get i).claim.isSome)) = true →
      mapHandler d p = .ok (.done (d.writeEntry i .invalid) (fun d => d.entryBytes i))) := by
  subst hf
  exact ⟨fun hbusy => ((bind_of_ok (fields_eq hp)).trans (bind_of_ok (numbered_eq hn))).trans (bind_of_error (want_refused hbusy)),
    fun hfree => (bind_of_ok (fields_eq hp)).trans (bind_two_of_ok (numbered_eq hn) (want_eq hfree) rfl)⟩

theorem mapHandler_valid {clsByte preroll : Nat} {mainBytes : Nat × Nat} {backupBytes : Option (Nat × Nat)} {autoFailover : Bool}
    {cls : DevClass} {main : Target} {backup : Option Target} (hf : form = .valid clsByte mainBytes backupBytes autoFailover preroll)
    (hcls : devClass? clsByte = some cls) (hmain : target? mainBytes = some main)
    (hbackup : (backupBytes = none ∧ backup = none) ∨ ∃ x, backupBytes = some x ∧ target? x = backup ∧ backup ≠ none)
    (hne : backup ≠ some main) :
    let old := d.world.map.get i
    let m : MapEntry := { valid := true, cls, main, backup, active := .main, autoFailover, preroll := min 1023 preroll
                          claim := old.claim, waiters := old.waiters }
    ((!(decide (old.cls = .playout) && old.claim.isSome)) = false → mapHandler d p = .error .busy) ∧
    ((!(decide (old.cls = .playout) && old.claim.isSome)) = true →
      (places 64).all (fun j => decide (j = i) || !(m.clashes (d.world.map.get j))) = true →
      mapHandler d p = .ok (.done (d.writeEntry i m) (fun d => d.entryBytes i))) := by
  intro old m
  have hchain : mapHandler d p = (want (!(decide (old.cls = .playout) && old.claim.isSome)) .busy >>= fun _ =>
      want ((places 64).all (fun j => decide (j = i) || !(m.clashes (d.world.map.get j)))) .duplicate >>= fun _ =>
      .ok (.done (d.writeEntry i m) (fun d => d.entryBytes i))) := by
    subst hf
    refine (bind_of_ok (fields_eq hp)).trans ((bind_of_ok (numbered_eq hn)).trans (bind_two_of_ok (need_of_some hcls)
      (need_of_some hmain) ?_))
    rcases hbackup with ⟨rfl, rfl⟩ | ⟨x, rfl, hx, hsome⟩
    · exact bind_two_of_ok (x := .ok none) rfl (want_eq (decide_eq_true hne)) rfl
    · obtain ⟨t, rfl⟩ := Option.ne_none_iff_exists'.1 hsome
      exact (bind_of_ok (need_of_some hx)).trans (bind_two_of_ok (x := .ok (some t)) rfl (want_eq (decide_eq_true hne)) rfl)
  exact ⟨fun hbusy => hchain.trans (bind_of_error (want_refused hbusy)),
    fun hfree hall => hchain.trans (bind_two_of_ok (want_eq hfree) (want_eq hall) rfl)⟩

end Handler

/-- Settles O32: the three forms of MAP, by the write of the entry. -/
theorem mapWritesOneEntry : Obligations.MapWritesOneEntry := by
  intro s tag p rest n form i w old held same wrote hs hp hn
  refine ⟨fun hf => hs.same (mapHandler_read hp hn hf), fun hf hheld => ?_, fun hf hfree => ?_,
    fun clsByte mainBytes backupBytes autoFailover preroll cls main backup hf hcls hmain hbackup hne => ⟨fun hheld => ?_, fun hfree hclash => ?_⟩⟩
  · exact hs.refused ((mapHandler_invalid (d := s.begun) hp hn hf).1 (MapEntry.held_iff.2 hheld))
  · have hdone := hs.done ((mapHandler_invalid (d := s.begun) hp hn hf).2 (Bool.not_eq_false _ ▸ mt MapEntry.held_iff.1 hfree))
    exact ⟨_, hdone, rfl, s.begun.writeEntry_service i _, s.begun.writeEntry_keeps i _ rfl, s.begun.writeEntry_wrote i _ rfl⟩
  · exact hs.refused ((mapHandler_valid (d := s.begun) hp hn hf hcls hmain hbackup hne).1 (MapEntry.held_iff.2 hheld))
  · have hall := all_apart (m := { valid := true, cls, main, backup, active := .main, autoFailover, preroll := min 1023 preroll,
                                   claim := old.claim, waiters := old.waiters }) hclash
    have hdone := hs.done ((mapHandler_valid (d := s.begun) hp hn hf hcls hmain hbackup hne).2
      (Bool.not_eq_false _ ▸ mt MapEntry.held_iff.1 hfree) hall)
    refine ⟨_, hdone, rfl, s.begun.writeEntry_keeps i _ rfl, s.begun.writeEntry_wrote i _ rfl, s.begun.writeEntry_service i _,
      fun hok hgfx => s.begun.writeEntry_free i _ (hok.written (fun hp => not_not.1 fun hc => hfree ⟨hp, hc⟩) rfl rfl) hgfx⟩

end Sys2Proof.Machine
end

section
/-! The element that a reference finds (R2), and what the head of a port's receive queue makes of it (R133, R166, R170). -/
namespace Sys2Proof.Machine

-- One proof is checked at a time: the tests above leave little memory for proofs side by side.
set_option Elab.async false

/-! ### The element that a reference finds (R2) -/

/-- An item with the element of one record changed. -/
def Item.withElem (r : ElemRef) (f : Element → Element) (it : Item) : Item :=
  if it.ref = r.item then { it with elements := modElems it.elements r.elem f } else it

theorem find?_map_of_same {α : Type} {p : α → Bool} {g : α → α} (h : ∀ a, p (g a) = p a) (xs : List α) :
    (xs.map g).find? p = (xs.find? p).map g := by
  rw [List.find?_map, show p ∘ g = p from funext h]

theorem Item.withElem_read {β : Type} (g : Item → β) (hg : ∀ it els, g { it with elements := els } = g it) (r : ElemRef)
    (f : Element → Element) (it : Item) : g (it.withElem r f) = g it := by
  unfold Item.withElem
  split
  · exact hg ..
  · rfl

theorem Store.item?_modElem (s : Store) (r : ElemRef) (f : Element → Element) (k : Nat) :
    (s.modElem r f).item? k = (s.item? k).map (Item.withElem r f) :=
  find?_map_of_same (fun it => Item.withElem_read (fun it => decide (it.key = k)) (fun _ _ => rfl) r f it) s.items

/-- What a reference finds: an item of the store, and an element of it, under their allocation counts. -/
theorem Store.elem?_iff {s : Store} {r : ElemRef} {it : Item} {el : Element} : s.elem? r = some (it, el) ↔
    s.items.find? (fun it => decide (it.ref = r.item)) = some it ∧ it.elements.find? (fun el => decide (el.ref = r.elem)) = some el := by
  unfold Store.elem?
  cases s.items.find? (fun it => decide (it.ref = r.item)) with
  | none => simp
  | some x =>
    rw [Option.map_eq_some_iff, Option.some_inj]
    constructor
    · rintro ⟨_, hel, ⟨⟩⟩
      exact ⟨rfl, hel⟩
    · rintro ⟨rfl, hel⟩
      exact ⟨el, hel, rfl⟩

theorem Store.elem?_modElem {s : Store} {r : ElemRef} {it : Item} {el : Element} {f : Element → Element}
    (hf : ∀ el, (f el).ref = el.ref) (h : s.elem? r = some (it, el)) : (s.modElem r f).elem? r = some (it.withElem r f, f el) := by
  obtain ⟨hit, hel⟩ := Store.elem?_iff.1 h
  have hr : it.ref = r.item := of_decide_eq_true (List.find?_some hit :)
  have he : el.ref = r.elem := of_decide_eq_true (List.find?_some hel :)
  refine Store.elem?_iff.2 ⟨?_, ?_⟩
  · exact (find?_map_of_same (fun x => Item.withElem_read (fun x => decide (x.ref = r.item)) (fun _ _ => rfl) r f x) s.items).trans
      (congrArg (Option.map _) hit)
  · rw [Item.withElem, if_pos hr]
    refine (find?_map_of_same (fun x => ?_) it.elements).trans ((congrArg (Option.map _) hel).trans (congrArg some (if_pos he)))
    split
    · rw [hf]
    · rfl

theorem World.modElem_eq {w : World} {r : ElemRef} {x : Item × Element} (h : w.store.elem? r = some x) (f : Element → Element) :
    ∃ due, w.modElem r f = { w with store := w.store.modElem r f, due } := by
  unfold World.modElem
  rw [h]
  dsimp only
  split
  · exact ⟨_, rfl⟩
  · exact ⟨_, rfl⟩

theorem World.modElem_kept {w : World} {r : ElemRef} {it : Item} {el : Element} {f : Element → Element}
    (h : w.store.elem? r = some (it, el)) (hf : ∀ el, (f el).renew = el.renew) :
    (w.modElem r f).ports = w.ports ∧ (w.modElem r f).lanes = w.lanes ∧ (w.modElem r f).store.records = w.store.records ∧
    ((w.modElem r f).store.elem? r).map (·.2) = some (f el) := by
  have hrecords := ((deriving_derives (fun _ => False) w).toWorking.modElem r f hf (.refl _ w)).records
  obtain ⟨due, heq⟩ := World.modElem_eq h f
  rw [heq] at hrecords ⊢
  exact ⟨rfl, rfl, hrecords, congrArg (Option.map (·.2)) (Store.elem?_modElem (f := f) (fun el => (congrArg Element.ref (hf el) :)) h)⟩

theorem Store.Ok.elem?_found {s : Store} (h : s.Ok) {r : ElemRef} {it : Item} {el : Element} (hel : s.elem? r = some (it, el)) :
    s.item? it.key = some it ∧ it.ref = r.item ∧ el.ref = r.elem ∧ (it.elements.map (·.ref)).Nodup := by
  obtain ⟨hit, hel⟩ := Store.elem?_iff.1 hel
  obtain ⟨-, -, helements⟩ := id h
  have hmem := List.mem_of_find?_eq_some hit
  have hn : ((s.items.flatMap (fun it => it.elements.map (·.ref))).map (·.num)).Nodup :=
    (helements.nodup_iff.2 List.nodup_range).sublist ((List.sublist_append_left ..).map _)
  exact ⟨h.item?_eq hmem, of_decide_eq_true (List.find?_some hit :), of_decide_eq_true (List.find?_some hel :),
    (List.nodup_flatMap.1 hn.of_map).1 it hmem⟩

/-! ### The head of a receive queue (R166) -/

/-- The message kind that each judgement of a message belongs to. -/
def Received.ofKind (k : Byte) : Received → Prop
  | .ack _ => k = 0x81#8
  | .nak _ _ => k = 0x82#8
  | .endOf _ => k = 0x83#8
  | .discard => True

theorem Port.judge_kind (p : Port) (m : RxMsg) : (p.judge m).ofKind m.kind := by
  obtain ⟨kind, fields⟩ := m
  cases fields with
  | nil => trivial
  | cons x rest =>
    cases rest with
    | nil =>
      show (if kind = 0x81#8 then _ else if kind = 0x83#8 then _ else _ : Received).ofKind kind
      split
      · cases p.outstanding? x <;> [trivial; assumption]
      · split <;> [(cases place? 8 x.toNat <;> [trivial; assumption]); trivial]
    | cons reason rest =>
      cases rest with
      | nil =>
        show (if kind = 0x82#8 then _ else _ : Received).ofKind kind
        split <;> [(cases p.outstanding? x <;> [trivial; assumption]); trivial]
      | cons => trivial

section Head
variable {s : State} {i : Fin 8} {m : RxMsg} {more : List RxMsg} (h : (s.begun.world.ports.get i).received = m :: more)
include h

theorem World.head_eq : s.begun.world.head i = some ((s.begun.world.ports.get i).judge m) :=
  congrArg (fun l => (List.head? l).map (s.begun.world.ports.get i).judge) h

theorem World.popReceived_eq : s.begun.world.popReceived i =
    s.begun.world.setPort i { s.begun.world.ports.get i with received := more } :=
  congrArg (fun l => s.begun.world.setPort i { s.begun.world.ports.get i with received := List.tail l }) h

theorem exec_ack_other (hk : m.kind ≠ 0x81#8) : exec (.ack i) s = .next s.quiet.drivePulse := by
  have hjudge := (s.begun.world.ports.get i).judge_kind m
  have hwork : State.takeAck i s.quiet = s.quiet := by
    rw [State.takeAck, show s.quiet.dev.world.head i = _ from World.head_eq h]
    generalize Port.judge _ m = x at hjudge
    cases x <;> [exact absurd hjudge hk; rfl; rfl; rfl]
  exact congrArg (fun t => Host.Outcome.next (State.drivePulse t)) hwork

theorem exec_nak_other (hk : m.kind ≠ 0x82#8) : exec (.nak i) s = .next s.quiet.drivePulse := by
  have hjudge := (s.begun.world.ports.get i).judge_kind m
  have hwork : State.takeNak i s.quiet = s.quiet := by
    rw [State.takeNak, show s.quiet.dev.world.head i = _ from World.head_eq h]
    generalize Port.judge _ m = x at hjudge
    cases x <;> [rfl; exact absurd hjudge hk; rfl; rfl]
  exact congrArg (fun t => Host.Outcome.next (State.drivePulse t)) hwork

theorem exec_end_other (hk : m.kind ≠ 0x83#8) : exec (.endNotice i) s = .next s.quiet.drivePulse := by
  have hjudge := (s.begun.world.ports.get i).judge_kind m
  have hwork : State.takeEnd i s.quiet = s.quiet := by
    rw [State.takeEnd, show s.quiet.dev.world.head i = _ from World.head_eq h]
    generalize Port.judge _ m = x at hjudge
    cases x <;> [rfl; rfl; exact absurd hjudge hk; rfl]
  exact congrArg (fun t => Host.Outcome.next (State.drivePulse t)) hwork

theorem exec_discarded (hj : (s.begun.world.ports.get i).judge m = .discard) : exec (.receivedMessageDiscard i) s =
    .next (State.drivePulse { s with
      dev := { s.begun with world := s.begun.world.setPort i { s.begun.world.ports.get i with received := more } } }) := by
  have hwork : State.takeOther i s.quiet = s.quiet.withWorld (s.begun.world.popReceived i) := by
    rw [State.takeOther, show s.quiet.dev.world.head i = _ from World.head_eq h, hj]
    rfl
  exact congrArg (fun t => Host.Outcome.next (State.drivePulse t)) (hwork.trans (congrArg s.quiet.withWorld (World.popReceived_eq h)))

theorem exec_ended {ch : Fin 8} (hk : m.kind = 0x83#8) (hf : m.fields = [BitVec.ofNat 8 ch.val]) {w : World}
    (hw : World.endNotice s.dev.env (s.begun.world.setPort i { s.begun.world.ports.get i with received := more }) ⟨i, ch⟩ = w) :
    exec (.endNotice i) s = .next (State.drivePulse { s with dev := Dev.settle { s.begun with world := w } }) := by
  subst hw
  have hplace : place? 8 (BitVec.ofNat 8 ch.val).toNat = some ch := by
    have hch := ch.isLt
    rw [BitVec.toNat_ofNat, Nat.mod_eq_of_lt (hch.trans (by decide)), place?, dif_pos hch]
  have hj : (s.begun.world.ports.get i).judge m = .endOf ch := by
    rw [Port.judge, hf]
    dsimp only
    rw [if_neg (by rw [hk]; decide), if_pos hk, hplace]
  have hwork : State.takeEnd i s.quiet = s.quiet.event (fun e w => World.endNotice e (w.popReceived i) ⟨i, ch⟩) := by
    rw [State.takeEnd, show s.quiet.dev.world.head i = _ from World.head_eq h, hj]
  exact congrArg (fun t => Host.Outcome.next (State.drivePulse t)) (hwork.trans (congrArg (fun w =>
    s.quiet.withWorld (World.settle s.dev.env (World.endNotice s.dev.env w ⟨i, ch⟩))) (World.popReceived_eq h)))

end Head

theorem Port.judge_discard {p : Port} {m : RxMsg} (h1 : m.kind ≠ 0x81#8) (h2 : m.kind ≠ 0x82#8) (h3 : m.kind ≠ 0x83#8) :
    p.judge m = .discard := by
  have hjudge := p.judge_kind m
  generalize p.judge m = x at hjudge
  cases x <;> [exact absurd hjudge h1; exact absurd hjudge h2; exact absurd hjudge h3; rfl]

/-! ### The END of an element (R133, R153) -/

/-- Whether the element of a record is the end clip of an item. -/
def Item.endsAt (it : Item) (r : Ref) : Bool :=
  match it.endMode.index? with
  | some i => decide (it.index? r = some i)
  | none => false

theorem Item.index?_iff {it : Item} {r : Ref} (hn : (it.elements.map (·.ref)).Nodup) (j : Nat) :
    it.index? r = some j ↔ (it.elements.map (·.ref))[j]? = some r := by
  have hfound : ∀ i, it.index? r = some i → (it.elements.map (·.ref))[i]? = some r := fun i h => by
    obtain ⟨hi, hr, -⟩ := List.findIdx?_eq_some_iff_getElem.1 h
    rw [List.getElem?_map, List.getElem?_eq_getElem hi]
    exact congrArg some (of_decide_eq_true hr)
  refine ⟨hfound j, fun h => ?_⟩
  obtain ⟨x, hx, hxr⟩ := List.mem_map.1 (List.mem_of_getElem? h)
  cases hi : it.index? r with
  | none => exact absurd (List.findIdx?_eq_none_iff.1 hi x hx) (by simp [hxr])
  | some i =>
    have hlt := (List.getElem?_eq_some_iff.1 (hfound i hi)).1
    exact congrArg some ((List.getElem?_inj hlt hn).1 ((hfound i hi).trans h.symm))

theorem Item.endsAt_iff {it : Item} {r : Ref} (hn : (it.elements.map (·.ref)).Nodup) :
    it.endsAt r = true ↔ ∃ j, it.endMode = .clip j ∧ (it.elements[j]?).map (·.ref) = some r := by
  unfold Item.endsAt
  cases it.endMode with
  | clip j => simpa [EndMode.index?] using Item.index?_iff hn j
  | manual => simp [EndMode.index?]
  | timed => simp [EndMode.index?]

section Ended
variable {e : Env} {w : World} {t : Target} {ow : Owner} {it : Item} {el : Element} (hroll : w.rolls.get t.place = some ow)
  (hel : w.store.elem? ow.ref = some (it, el)) (hcan : el.canEnd = true)
include hroll hel hcan

theorem World.endNotice_eq {w1 w2 : World} (h1 : w.modElem ow.ref (fun x => { x with fire := .ended, failReason := none }) = w1)
    (h2 : (if decide ((w.lane ow.lane).onAir = some it.key) && it.endsAt ow.ref.elem then World.testAuto e w1 ow.lane else w1) = w2) :
    World.endNotice e w t = if (w2.lane ow.lane).onAir = some it.key ∧
      it.cycleElements.any (fun x => decide (x.ref = el.ref)) = true then World.cycleTest e w2 ow.lane else w2 := by
  subst h1 h2
  unfold World.endNotice
  rw [hroll]
  dsimp only
  rw [hel]
  have hcond : ∀ v : World, (if decide ((v.lane ow.lane).onAir = some it.key) && it.cycleElements.any (fun x => decide (x.ref = el.ref))
      then World.cycleTest e v ow.lane else v) = if (v.lane ow.lane).onAir = some it.key ∧
        it.cycleElements.any (fun x => decide (x.ref = el.ref)) = true then World.cycleTest e v ow.lane else v := fun v =>
    if_congr (by rw [Bool.and_eq_true, decide_eq_true_iff]) rfl rfl
  exact (if_pos hcan).trans (hcond _)

end Ended

/-- The ON_AIR item of a lane once its end clip has ended: its auto-take is due (R107). -/
theorem World.autoDue_ended {e : Env} {w : World} {l : Fin 4} {it : Item} {j : Nat} {x : Element}
    (ha : w.onAirItem? l = some it) (hp : it.place = .order) (hm : it.endMode = .clip j) (hx : it.elements[j]? = some x)
    (hf : x.fire = .ended) : World.autoDue e w l = true := by
  rw [World.autoDue, ha]
  dsimp only
  rw [hp, hm]
  dsimp only
  rw [hx]
  exact decide_eq_true hf

theorem World.autoDue_standby {e : Env} {w : World} {l : Fin 4} {it : Item} (ha : w.onAirItem? l = some it) (hp : it.place = .standby) :
    World.autoDue e w l = false := by
  rw [World.autoDue, ha]
  dsimp only
  rw [hp]

theorem Element.canEnd_iff {el : Element} : el.canEnd = true ↔
    el.fire = .sent ∨ el.fire = .done ∨ (el.fire = .failed ∧ el.failReason = some .timeout) := by
  simp [Element.canEnd, or_assoc]

theorem World.testAuto_of_not_running {e : Env} {w : World} {l : Fin 4} (h : (w.lane l).state ≠ .running) (b : Bool) :
    (if b then World.testAuto e w l else w) = w := by
  have hidle : World.testAuto e w l = w := if_neg fun hc => h (of_decide_eq_true (Bool.and_eq_true_iff.1 hc).1)
  rw [hidle, ite_self]

section Running
variable {w : World} {r : ElemRef} {it : Item} {el : Element} (hel : w.store.elem? r = some (it, el)) (f : Element → Element)
include hel

theorem World.modElem_lane (l : Fin 4) : (w.modElem r f).lane l = w.lane l := by
  obtain ⟨due, h⟩ := World.modElem_eq hel f
  rw [h]
  rfl

theorem World.onAirItem?_modElem (hok : w.store.Ok) {l : Fin 4} (ha : (w.lane l).onAir = some it.key) :
    (w.modElem r f).onAirItem? l = some (it.withElem r f) := by
  obtain ⟨hit, -⟩ := hok.elem?_found hel
  obtain ⟨due, h⟩ := World.modElem_eq hel f
  rw [World.onAirItem?, World.modElem_lane hel, ha, Option.bind_some, h]
  exact (Store.item?_modElem w.store r f it.key).trans (congrArg (Option.map _) hit)

/-- The END of the end clip of a lane's ON_AIR item makes its auto-take due; any other END tests nothing (R107, R133). -/
theorem World.testAuto_ended {e : Env} {l : Fin 4} (hok : w.store.Ok) (hf : ∀ x, (f x).fire = .ended) (hrun : (w.lane l).state = .running) :
    let tested := if decide ((w.lane l).onAir = some it.key) && it.endsAt r.elem then World.testAuto e (w.modElem r f) l
      else w.modElem r f
    let isEnd := (w.lane l).onAir = some it.key ∧ it.place = .order ∧
      ∃ j, it.endMode = .clip j ∧ (it.elements[j]?).map (·.ref) = some r.elem
    (isEnd → tested = World.evalAuto e (w.modElem r f) l) ∧ (¬isEnd → tested = w.modElem r f) := by
  obtain ⟨-, hitem, -, hn⟩ := hok.elem?_found hel
  intro tested isEnd
  refine ⟨fun ⟨ha, hplace, hend⟩ => ?_, fun hnot => ?_⟩
  · have hdue : World.autoDue e (w.modElem r f) l = true := by
      obtain ⟨j, hmode, hj⟩ := hend
      obtain ⟨x, hx, hxr⟩ := Option.map_eq_some_iff.1 hj
      refine World.autoDue_ended (World.onAirItem?_modElem hel f hok ha)
        ((Item.withElem_read Item.place (fun _ _ => rfl) r f it).trans hplace)
        ((Item.withElem_read Item.endMode (fun _ _ => rfl) r f it).trans hmode) (x := f x) ?_ (hf x)
      rw [Item.withElem, if_pos hitem]
      exact (List.getElem?_map ..).trans ((congrArg (Option.map _) hx).trans (congrArg some (if_pos hxr)))
    exact (if_pos (Bool.and_eq_true_iff.2 ⟨decide_eq_true ha, (Item.endsAt_iff hn).2 hend⟩)).trans
      (if_pos (Bool.and_eq_true_iff.2 ⟨decide_eq_true ((congrArg LaneRec.state (World.modElem_lane hel f l)).trans hrun), hdue⟩))
  · by_cases hc : (decide ((w.lane l).onAir = some it.key) && it.endsAt r.elem) = true
    · obtain ⟨ha, hend⟩ := Bool.and_eq_true_iff.1 hc
      have ha := of_decide_eq_true ha
      have hstandby : it.place = .standby := by
        cases hp : it.place with
        | order => exact absurd ⟨ha, hp, (Item.endsAt_iff hn).1 hend⟩ hnot
        | standby => rfl
      have hdue := World.autoDue_standby (e := e) (World.onAirItem?_modElem hel f hok ha)
        ((Item.withElem_read Item.place (fun _ _ => rfl) r f it).trans hstandby)
      exact (if_pos hc).trans (if_neg (by rw [hdue, Bool.and_false]; exact Bool.false_ne_true))
    · exact if_neg hc

end Running

/-- Settles O37: an END by the branches of its notice, and what is discarded by the judgement of the head. -/
theorem endsAndDiscardsLeaveTheReceiveQueue : Obligations.EndsAndDiscardsLeaveTheReceiveQueue := by
  intro s i ch m more w r popped hr
  refine ⟨fun ow it el hk hf hroll hel hcan hrun => ?_, fun ow it el hk hf hroll hel hok hcan hrun => ?_, fun hk hf hroll => ?_,
    fun h1 h2 h3 => exec_discarded hr (Port.judge_discard h1 h2 h3), fun seq hk hf hnone => exec_discarded hr ?_,
    exec_end_other hr, exec_ack_other hr, exec_nak_other hr⟩
  · have hend := World.endNotice_eq (e := s.dev.env) (w := popped) (t := ⟨i, ch⟩) hroll hel (Element.canEnd_iff.2 hcan) rfl
      (World.testAuto_of_not_running (fun hc => hrun ((congrArg LaneRec.state (World.modElem_lane (w := popped) hel _ _)).symm.trans hc)) _)
    rw [World.modElem_lane (w := popped) hel] at hend
    refine ⟨fun ha hin => exec_ended hr hk hf (hend.trans (if_pos ⟨ha, hin⟩)), fun hout => ?_⟩
    have hexec := exec_ended hr hk hf (hend.trans (if_neg fun ⟨ha, hin⟩ => hout.elim (absurd ha) fun h => Bool.false_ne_true (h.symm.trans hin)))
    obtain ⟨hports, hlanes, hrecords, helem⟩ := World.modElem_kept (w := popped) hel
      (f := fun x => { x with fire := .ended, failReason := none }) (fun _ => rfl)
    exact ⟨_, hexec, rfl, hports, hlanes, hrecords, helem⟩
  · intro e ended isEnd cycled answers
    obtain ⟨hend, hnot⟩ := World.testAuto_ended (e := e) (w := popped) hel (fun x => { x with fire := .ended, failReason := none }) hok
      (fun _ => rfl) hrun
    exact ⟨fun h => exec_ended hr hk hf (World.endNotice_eq (w := popped) hroll hel (Element.canEnd_iff.2 hcan) rfl (hend h)),
      fun h => exec_ended hr hk hf (World.endNotice_eq (w := popped) hroll hel (Element.canEnd_iff.2 hcan) rfl (hnot h))⟩
  · refine exec_ended hr hk hf ?_
    unfold World.endNotice
    rw [show popped.rolls.get (Target.place ⟨i, ch⟩) = none from hroll]
  · show Port.judge _ m = _
    rw [Port.judge, hf]
    dsimp only
    rw [if_pos hk, Port.outstanding?, hnone]

end Sys2Proof.Machine
end
